-- ==== Sys2Proof/Word.lean ====
section
/-! DEFINITION. The byte of the Control Line and the Fleet Link, and the little-endian layout of numbers in bytes
(R158, R184, R187). -/

namespace Sys2Proof

/-- A byte of a frame on either serial line. -/
abbrev Byte := BitVec 8

/-- A set of reasons or of watch conditions as R184 carries it: bit `n` is set when member `n` is in the set. -/
abbrev ReasonSet := BitVec 16

/-- A number as one byte. -/
def byteOf (n : Nat) : Byte := BitVec.ofNat 8 n

/-- A number in `k` bytes, least significant first (R184: multi-byte fields are little-endian). -/
def bytesLE : Nat → Nat → List Byte
  | 0, _ => []
  | k + 1, n => byteOf n :: bytesLE k (n / 256)

/-- The number that bytes, least significant first, stand for. -/
def natLE : List Byte → Nat
  | [] => 0
  | b :: bs => b.toNat + 256 * natLE bs

end Sys2Proof
end

