-- ==== Sys2Proof/Syntax.lean ====
section
/-! DEFINITION. The commands of the HZ2240: one constructor of `Instr` for each row of spec/opcode_table.json, with the
row's operands. Requests of the host carry the fields their owning rule names, as numbers, so that a value outside its
range can be named and is answered as the rule says; an enumerated operand is an `Option`, `none` being a value that is
none of the kind's values (R187: refused with BAD_FRAME). Pin events, timers and link events name the object itself. -/

namespace Sys2Proof

/-- Width class of a roll (R4). -/
inductive WidthClass
  | full | threeQuarter | half
  deriving DecidableEq, Repr

/-- The two arms of a reelstand. -/
inductive Arm
  | a | b
  deriving DecidableEq, Repr

/-- The direction of an edge of the COPY input (R162). -/
inductive PinEdge
  | rising | falling
  deriving DecidableEq, Repr

/-- Copy edge configured for a press (R160). -/
inductive CopyEdge
  | none | rising | falling | both
  deriving DecidableEq, Repr

/-- Gate polarity of a press (R160). -/
inductive GatePolarity
  | wasteHigh | wasteLow
  deriving DecidableEq, Repr

/-- What a vehicle's tag reader reports: a roll number, or NO_READ (R152). -/
inductive Tag
  | noRead | roll (n : Nat)
  deriving DecidableEq, Repr

/-- The place a request names for a roll: a lane or a bay (R7, R127). -/
inductive PlaceArg
  | lane (n : Nat) | bay (n : Nat)
  deriving DecidableEq, Repr

/-- The content a BAY SET names (R33). -/
inductive BayContent
  | keep | empty | roll (n : Nat)
  deriving DecidableEq, Repr

/-- The presence a STAND CONFIG names (R59). -/
inductive Presence
  | present | absent
  deriving DecidableEq, Repr

/-- The two answers of STAND RESOLVE (R79). -/
inductive Resolve
  | pastedYes | pastedNo
  deriving DecidableEq, Repr

/-- The two actions of PLATE (R173). -/
inductive PlateAction
  | set | cancel
  deriving DecidableEq, Repr

/-- Node kinds of the floor plan (R104); lane, bay and stand numbers as named. -/
inductive NodeKind
  | plain | hold | laneHead (lane : Nat) | bay (bay : Nat) | stand (stand : Nat) | charger | park | home
  deriving DecidableEq, Repr

/-- Segment attributes (R105). -/
inductive SegAttr
  | none | door (door : Nat) | lane (lane : Nat)
  deriving DecidableEq, Repr

/-- Segment directions (R105). -/
inductive Direction
  | both | aToB
  deriving DecidableEq, Repr

/-- The forms of FLOOR QUERY (R120). -/
inductive FloorForm
  | node (n : Nat) | segment (n : Nat) | route (n : Nat) | waits
  deriving DecidableEq, Repr

/-- The forms of TASK QUERY (R146, R187). -/
inductive TaskForm
  | one (id : Nat) | all (position : Nat)
  deriving DecidableEq, Repr

/-- The eight configuration fields a STAND CONFIG may name (R59), each present or omitted. -/
structure StandCfgArg where
  reserve : Option Nat
  minReserve : Option Nat
  accelLead : Option Nat
  accelLimit : Option Nat
  prepTime : Option Nat
  matchWindow : Option Nat
  pasteCycle : Option Nat
  ejectLimit : Option Nat
  deriving DecidableEq, Repr

/-- The six fields a PRESS CONFIG may name (R161). -/
structure PressCfgArg where
  scale : Option Nat
  cutOff : Option Nat
  pulses : Option Nat
  copyEdge : Option (Option CopyEdge)
  polarity : Option (Option GatePolarity)
  window : Option Nat
  deriving DecidableEq, Repr

/-- The five values a FLEET CONFIG may name (R145). -/
structure FleetCfgArg where
  holdTimeout : Option Nat
  parkDelay : Option Nat
  sleepDelay : Option Nat
  chargeInterval : Option Nat
  topUpPeriod : Option Nat
  deriving DecidableEq, Repr

/-- A complete Control Line frame as the receiver hands it on: kind, tag and payload (R184). -/
structure ClFrame where
  kind : Byte
  tag : Byte
  payload : List Byte
  deriving DecidableEq, Repr

/-- The commands: one constructor per row of spec/opcode_table.json, in the table's order. -/
inductive Instr
  -- part level and Control Line (chapter 11)
  | hardwareReset (rate1 rate0 : Bool)
  | frameComplete (frame : ClFrame)
  | rxGapTimeout
  | requestTake
  | transmitDone
  | identify
  | timeSet (time : Nat)
  | resetMotion (scope : Nat)
  -- notices (chapter 10)
  | attention
  | noticeMask (masks : List (Nat × Nat)) (enable : Option (Option Bool))
  -- rolls (chapter 1)
  | rollIn (roll grade : Nat) (width : Option WidthClass) (caliper core label : Nat) (place : Option PlaceArg)
  | rollEdit (roll : Nat) (grade : Option Nat) (width : Option (Option WidthClass)) (caliper core label : Option Nat)
  | rollHold (roll : Nat)
  | rollFree (roll : Nat)
  | rollClose (roll : Nat)
  | rollQuery (roll : Nat)
  | gradeSet (grade minutes : Nat)
  -- lanes, bays and doors (chapter 2)
  | laneSet (lane : Nat) (rolls : List Nat)
  | laneBlock (lane : Nat)
  | laneUnblock (lane : Nat)
  | laneRelease (lane : Nat)
  | laneQuery (lane : Nat)
  | storeConfig (depths : List Nat) (clearTime : Nat)
  | storeQuery
  | baySet (bay : Nat) (content : Option BayContent)
  | doorConfig (door : Nat) (limit window : Option Nat)
  | doorQuery (door : Nat)
  -- stands (chapter 4)
  | standConfig (stand : Nat) (presence : Option Presence) (cfg : StandCfgArg)
  | standAuto (stand : Nat) (on : Option Bool)
  | standSplice (stand : Nat)
  | standThread (stand : Nat)
  | standResolve (stand : Nat) (answer : Option Resolve)
  | standEject (stand : Nat)
  | standAssign (stand : Nat) (assignment : Option (Nat × Option WidthClass))
  | standWatch (stand : Nat) (set : Nat)
  | standQuery (stand : Nat)
  -- presses (chapters 5 and 9)
  | pressRelease (press : Nat)
  | pressFeedConfig (estimate margin pickOverhead placeOverhead : Option Nat)
  | pressConfig (press : Nat) (cfg : PressCfgArg)
  | edition (press target allowance : Nat)
  | plate (press : Nat) (action : Option PlateAction)
  | countClear (press : Nat)
  | runsQuery (press : Nat)
  | pressQuery (press : Nat)
  -- floor plan and fleet (chapters 6 and 7)
  | floorNode (number : Nat) (kind : Option NodeKind) (escape : Option Nat)
  | floorSegment (number a b length : Nat) (attr : Option SegAttr) (direction : Option Direction)
  | floorRoute (number origin destination : Nat) (segments : List Nat)
  | floorClear
  | floorQuery (form : Option FloorForm)
  | fleetStart
  | fleetStop
  | fleetConfig (cfg : FleetCfgArg)
  | fleetQuery
  | taskUnstack (lane count : Nat) (deadline : Option Nat)
  | taskCheck (lane : Nat) (deadline : Option Nat)
  | taskMove (vehicle node : Nat) (drop : Option (Option PlaceArg)) (deadline : Option Nat)
  | taskCancel (task : Nat)
  | taskQuery (form : Option TaskForm)
  | vehicleEnrol (vehicle speed : Nat)
  | vehicleRemove (vehicle : Nat)
  | vehicleHalt (vehicle : Nat)
  | vehicleRecover (vehicle node : Nat)
  | vehicleHome (vehicle : Nat)
  | vehicleQuery (vehicle : Nat) (clearGaps : Option Bool)
  -- the Hall Clock, the field pins and the timers
  | hallSecond
  | laneClearExpiry (lane : Fin 16)
  | webAdvance (press : Fin 4) (counts : Nat)
  | webCopy (press : Fin 4)
  | indexFault (stand : Fin 24)
  | bucketBoundary
  | indexPulse (stand : Fin 24) (arm : Arm)
  | measureReset (stand : Fin 24) (measurement : Nat)
  | prepRise (stand : Fin 24)
  | pastedRise (stand : Fin 24)
  | buttClrRise (stand : Fin 24)
  | pressRunRise (press : Fin 4)
  | pressRunFall (press : Fin 4)
  | breakRise (press : Fin 4)
  | accelTimeout (stand : Fin 24)
  | pasteTimeout (stand : Fin 24)
  | ejectTimeout (stand : Fin 24)
  | copyPulse (press : Fin 4) (edge : PinEdge) (gate : Bool)
  | copyComplete (press : Fin 4) (gate : Bool)
  -- the Fleet Link and the vehicles' timers
  | pollCycleStart
  | visit (vehicle : Fin 12)
  | statusFrame (bytes : List Byte) (gapless : Bool)
  | pickFailed (vehicle : Fin 12) (tag : Tag)
  | homePassageLimit (vehicle : Fin 12)
  | replyWindowExpiry
  | linkLoss (vehicle : Fin 12)
  | wakeExpiry (vehicle : Fin 12)
  | holdTimeout (vehicle : Fin 12)
  | chargeIntervalExpiry (vehicle : Fin 12)
  | topUpExpiry (vehicle : Fin 12)
  | parkDelayExpiry (vehicle : Fin 12)
  | sleepDelayExpiry (vehicle : Fin 12)
  -- the Control Line receiver
  | rxByte (byte : Byte)
  | rxFramingError
  deriving DecidableEq, Repr

end Sys2Proof
end

