-- ==== Sys2Proof/Decode.lean ====
section
/-! DEFINITION. Reading a command from the bits of an opcode-table word. -/

namespace Sys2Proof

/-- The command that a table word of `nbits` bits spells. No row of spec/opcode_table.json has bits: requests come as Control
Line frames (read by `Machine.requestOf`), events come on pins, from timers and on the Fleet Link. So no word spells a
command. -/
def decodeTableWord (_nbits _w : Nat) : Option Instr := none

end Sys2Proof
end

