-- ==== Sys2Proof/Config.lean ====
section
/-! DEFINITION. What the HZ2240's data sheet fixes for the part (capacities, ranges, hardware-reset configuration), the
constants this model chooses (marked), and the values the spec leaves open (constants without a body). -/

namespace Sys2Proof.Config

/-- The largest 32-bit value: hall time, counters and deadlines stop here (R4, R8, R53, R160, R191). -/
def maxU32 : Nat := 4294967295

/-- Roll Table records (R3). -/
def rollTable : Nat := 512
/-- Task Queue tasks (R125). -/
def taskQueue : Nat := 32
/-- Largest number of configured lanes (R20). -/
def maxLanes : Nat := 16
/-- Input buffer frames and reply queue replies (R186). -/
def inputBuffer : Nat := 2
/-- Replies the reply queue holds (R186). -/
def replyQueue : Nat := 2
/-- Waste runs in a run ring (R169). -/
def runRing : Nat := 16
/-- Measurements in a circumference ring (R46). -/
def circRing : Nat := 4
/-- Largest length field of a Control Line frame (R184). -/
def maxFrame : Nat := 1024
/-- Bytes of a NOTICE's kind (R184). -/
def noticeKind : Byte := 0x7F

/-- Numerator of the constant 4π·1000 of R49: 1,420. -/
def piNum : Nat := 1420
/-- Denominator of R49: 113,000. -/
def piDen : Nat := 113000

/-- Ticks of the reply window (R153). -/
def replyWindow : Nat := 20
/-- Bits that the Fleet Link carries in a millisecond, times ten: 115,200 baud (R158). -/
def fleetBaud : Nat := 1152
/-- Bits of a byte on the Fleet Link: one start bit, 8 data bits, 1 stop bit (R158). -/
def fleetByteBits : Nat := 10

/-- How many hand-offs between blocks one command takes before the rest wait for the next step. DESIGN CHOICE (log 2). -/
def handoffFuel : Nat := 4096

/-- The kind byte of the reply to a request whose kind has its top bit set, counted over the 255 byte values that are not
0x7F (R188: no reply kind is 0x7F). R184 gives the reply's kind as the request's kind plus 0x80, which does not fit a byte
there: the spec states no value. FREE VALUE (log 5). -/
opaque replyKindOver : Byte → Fin 255

end Sys2Proof.Config
end

