-- ==== Sys2Proof/Machine/State.lean ====
section
/-! DEFINITION. The state of the HZ2240, block by block (00_scope.md, FUNCTIONAL BLOCK DIAGRAM): plain data, with every
field a chapter names, the hand-offs under way between blocks, and the queue of commands that wait. `State.reset` is the
part right after hardware reset. -/

namespace Sys2Proof.Machine

abbrev Press := Fin 4
abbrev Stand := Fin 24
abbrev Vehicle := Fin 12
abbrev Node := Fin 128
abbrev Seg := Fin 192
abbrev Route := Fin 256

/-! ## Notice Unit -/

/-- One entry of the Notice Table (R176); `queued` says that the source stands in the transmit set (R181). -/
structure NoticeEntry where
  pending : ReasonSet
  seen : ReasonSet
  announced : Bool
  queued : Bool
  deriving DecidableEq, Repr

/-- Notice Table, masks in the order of R187's kinds (STORE, FLEET, DOOR, PRESS, STAND, VEH) and global enable (R180). -/
structure NoticeUnit where
  entries : Vector NoticeEntry 44
  masks : Vector ReasonSet 6
  enable : Bool
  deriving DecidableEq, Repr

/-! ## Store Unit -/

/-- Roll states (R5). -/
inductive RollState
  | conditioning | ready | reserved | carried | standby | running | butt | spent
  deriving DecidableEq, Repr

/-- Marks (R6). -/
inductive Mark
  | normal | held
  deriving DecidableEq, Repr

/-- Locations (R4). -/
inductive Loc
  | lane (lane depth : Nat) | bay (bay : Fin 8) | vehicle (v : Vehicle) | stand (st : Stand) (arm : Arm) | none
  deriving DecidableEq, Repr

/-- A roll record (R4). -/
structure RollRec where
  num : Nat
  grade : Nat
  width : WidthClass
  caliper : Nat
  core : Nat
  label : Nat
  arrival : Nat
  ready : Nat
  state : RollState
  mark : Mark
  loc : Loc
  reservation : Option Stand
  remaining : Nat
  measured : Bool
  stripped : Option Nat
  butt : Option Nat
  good : Nat
  waste : Nat
  spliceWaste : Nat
  spliceIn : Option Nat
  spliceOut : Option Nat
  deriving DecidableEq, Repr

/-- Motion states of a lane (R20). -/
inductive LaneMotion
  | idle | opened (v : Vehicle) | clearing (expiry : Nat)
  deriving DecidableEq, Repr

/-- A lane record (R20). -/
structure LaneRec where
  depth : Nat
  motion : LaneMotion
  blocked : Bool
  suspect : Bool
  lastTag : Option Tag
  list : List Nat
  deriving DecidableEq, Repr

/-- Bay states (R31). -/
inductive BayState
  | free | reserved (task : Nat) | occupied (roll : Nat)
  deriving DecidableEq, Repr

/-- A bay record (R31). -/
structure BayRec where
  state : BayState
  suspect : Bool
  lastTag : Option Tag
  deriving DecidableEq, Repr

/-- A door record (R34). -/
structure DoorRec where
  limit : Nat
  window : Nat
  openings : List Nat
  dropped : Option Nat
  waits : List Vehicle
  passages : List Vehicle
  full : Bool
  deriving DecidableEq, Repr

/-- Roll Table (records ordered by roll number, so that equal tables are equal data), Lane Table (its length is the lane
count), lane clear time in seconds, Bay, Door and Grade Tables. -/
structure StoreUnit where
  rolls : List RollRec
  lanes : List LaneRec
  clearTime : Nat
  bays : Vector BayRec 8
  doors : Vector DoorRec 2
  grades : Vector Nat 16
  deriving DecidableEq, Repr

/-! ## Projection Unit -/

/-- Projection record of a press (R39). -/
structure PressProj where
  scale : Nat
  pendScale : Option Nat
  carry : Nat
  position : Nat
  bucket : Nat
  buckets : List Nat
  speed : Nat
  deriving DecidableEq, Repr

/-- The splice reserve R, minimum reserve Rmin (metres) and accel lead A (seconds) of a stand (R51). -/
structure Reserves where
  reserve : Nat
  minReserve : Nat
  lead : Nat
  deriving DecidableEq, Repr

/-- Phase of a period measurement (R43). -/
inductive MeasPhase
  | discard | counting
  deriving DecidableEq, Repr

/-- Projection record of a stand (R43). The mean c̄ is computed from the ring (`StandProj.mean?`). -/
structure StandProj where
  force : Reserves
  pend : Option Reserves
  runPhase : MeasPhase
  runPeriod : Nat
  faultDist : Nat
  indexFault : Bool
  ring : List Nat
  rejects : Nat
  time : Option Nat
  deadline : Option Nat
  expected : Option Nat
  sbPhase : MeasPhase
  sbPeriod : Nat
  prevW : Option Nat
  lastW : Option Nat
  deriving DecidableEq, Repr

structure ProjectionUnit where
  press : Vector PressProj 4
  stand : Vector StandProj 24
  deriving DecidableEq, Repr

/-! ## Stand Sequencer -/

/-- Stand states (R61). -/
inductive StandState
  | empty | single | butt | loading | preparing | armed | accelerating | matched | pasting | runout | fault
  deriving DecidableEq, Repr

/-- The eight configuration fields of a stand (R59). -/
structure StandCfg where
  reserve : Nat
  minReserve : Nat
  accelLead : Nat
  accelLimit : Nat
  prepTime : Nat
  matchWindow : Nat
  pasteCycle : Nat
  ejectLimit : Nat
  deriving DecidableEq, Repr

/-- Purposes of the sequence timer (R61). -/
inductive TimerPurpose
  | accel | paste | eject
  deriving DecidableEq, Repr

/-- Last splice fault (R61). -/
inductive SpliceFault
  | accelTimeout | speedMismatch | noConfirm
  deriving DecidableEq, Repr

/-- The fault part of a stand in FAULT (R61, R72). -/
structure FaultPart where
  entry : Nat
  copies : Nat
  lateConfirm : Bool
  deriving DecidableEq, Repr

/-- The watch set without IMMEDIATE (R61, R82). -/
structure WatchSet where
  rise : Bool
  fall : Bool
  rev : Bool
  deriving DecidableEq, Repr

/-- A stand record (R61). `autoClear` is the mark that a RESET(MOTION) taken in PASTING leaves: AUTO is cleared once the
paste cycle has completed (R85). -/
structure StandRec where
  present : Bool
  cfg : StandCfg
  armA : Option Nat
  armB : Option Nat
  running : Option Arm
  state : StandState
  auto : Bool
  assignment : Option (Nat × WidthClass)
  watch : WatchSet
  manual : Bool
  loading : Option Vehicle
  prepStart : Option Nat
  timer : Option (TimerPurpose × Nat)
  ejectFault : Bool
  lastFault : Option SpliceFault
  fault : Option FaultPart
  autoClear : Bool
  deriving DecidableEq, Repr

/-! ## Fleet Dispatcher -/

/-- Task kinds (R124). -/
inductive TaskKind
  | deliver | relocate | unstack | check | move | charge | park
  deriving DecidableEq, Repr

/-- Task states (R124). -/
inductive TaskState
  | waitRoll | waitDig | queued | assigned | picking | carrying | placing
  deriving DecidableEq, Repr

/-- Places of a task (R124). -/
inductive Place
  | stand (st : Stand) | lane (lane : Nat) | bay (bay : Fin 8) | node (n : Node)
  deriving DecidableEq, Repr

/-- Fail reasons (R126). -/
inductive FailReason
  | pickFailed | headChanged | laneRefused | standRefused | storeRefused | noRoute | runRefused | noBay | linkLost
  | positionFault | vehicleError | recovered | cancelled
  deriving DecidableEq, Repr

/-- The route a task drives: number, node sequence and length still ahead in dm (R124). -/
structure TaskRoute where
  number : Route
  nodes : List Node
  ahead : Nat
  deriving DecidableEq, Repr

/-- A task record (R124). `toStand` is the route length from the pick place to the stand, looked up at assignment (R129). -/
structure TaskRec where
  id : Nat
  kind : TaskKind
  state : TaskState
  stand : Option Stand
  roll : Option Nat
  source : Option Place
  dest : Option Place
  deadline : Option Nat
  created : Nat
  vehicle : Option Vehicle
  parent : Option Nat
  count : Nat
  moved : Nat
  bay : Option (Fin 8)
  reads : Nat
  route : Option TaskRoute
  cancel : Bool
  fail : Option FailReason
  toStand : Option Nat
  deriving DecidableEq, Repr

/-- How a task ended (R126). -/
inductive TaskResult
  | done | failed (r : FailReason)
  deriving DecidableEq, Repr

/-- Last task outcome of a vehicle; a CHECK carries the tag read (R132), an UNSTACK the number moved (R135). -/
structure TaskOutcome where
  id : Nat
  kind : TaskKind
  result : TaskResult
  tag : Option Tag
  moved : Option Nat
  deriving DecidableEq, Repr

/-- Vehicle states (R123). -/
inductive VehState
  | idle | waiting | driving | picking | placing | charging | doze | sleep | waking | fault | lost
  deriving DecidableEq, Repr

/-- Fault causes (R122). -/
inductive FaultCause
  | unplaced | position | homeFailed | vehicleError
  deriving DecidableEq, Repr

/-- Power states (R122). -/
inductive Power
  | awake | doze | sleep
  deriving DecidableEq, Repr

/-- The step of its work a vehicle stands at: what the rules of chapter 7 call "the step that expects" an event. State the
chapter implies: an order under way, a wait, or the end a task takes at the next AT report. -/
inductive Phase
  /-- no work under way -/
  | none
  /-- WAITING, its run request at the Lock Unit (R130) -/
  | runWait
  /-- WAITING, its run request held back until runs may be asked (R130) -/
  | heldBack
  /-- WAITING at a LANE_HEAD node for the lane to open (R130) -/
  | laneWait
  /-- WAITING for a free charger (R137) -/
  | chargerWait
  /-- WAITING for the echo of DOCK (R137) -/
  | dockWait
  /-- halted at a step that would begin with an order or a run (R141) -/
  | stalled
  /-- DRIVING on a granted run -/
  | driving
  /-- DRIVING with no run, homing (R143) -/
  | homing
  /-- PICK_READ ordered (R131) -/
  | reading
  /-- LIFT ordered (R132) -/
  | lifting
  /-- LIFTED taken in a lane, AT awaited (R132) -/
  | lifted
  /-- the AT report awaited, at which the task ends with this result (R131, R132, R133) -/
  | leaving (result : TaskResult)
  /-- PLACE ordered (R133, R134) -/
  | lowering
  /-- PLACED taken in a lane, AT awaited (R133) -/
  | lowered
  /-- place begin answered WAIT at a stand (R134) -/
  | standWait
  deriving DecidableEq, Repr

/-- A vehicle record (R122). The fields from `phase` on are what chapter 7 implies: the step of the work, the place worked
at, the expected roll of the pick (R131), whether a pick, place or check has begun at the lane head since the lane was
opened (R23), whether LIFTED, PLACED or BACKOUT has come since, so that the next AT report is the vehicle back at the lane
head node (R131), an UNDOCK under way (R137), HOME to follow the answer to WAKE (R143), the second at which the park or sleep
delay began to count (R138, R139), a PARK task waiting for a queue slot (R138), and the mark that the sleep delay has
expired in this DOZE (R139: the test is made once). -/
structure VehRec where
  enrolled : Bool
  speed : Nat
  state : Option VehState
  cause : Option FaultCause
  halted : Bool
  node : Option Node
  load : Option Nat
  task : Option Nat
  balance : Int
  interval : Nat
  topUp : Nat
  chargeDue : Bool
  barred : Bool
  power : Power
  reachable : Bool
  entry : Option Nat
  passages : Nat
  outcome : Option TaskOutcome
  errorCode : Option Nat
  phase : Phase
  work : Option Place
  expected : Option Nat
  workBegun : Bool
  backDue : Bool
  undocking : Bool
  homeNext : Bool
  delayFrom : Nat
  parkWait : Bool
  sleepTested : Bool
  deriving DecidableEq, Repr

/-- Fleet states (R107). -/
inductive FleetState
  | stopped | running | halting
  deriving DecidableEq, Repr

/-- Vehicle Table, Task Queue, last id given, the mark that QUEUE_FULL has been raised since the queue last held fewer than
32 tasks (R125), the fleet state and the five values of FLEET CONFIG (R145). -/
structure FleetDispatcher where
  vehicles : Vector VehRec 12
  tasks : List TaskRec
  lastId : Nat
  fullMark : Bool
  fleet : FleetState
  holdTimeout : Nat
  parkDelay : Nat
  sleepDelay : Nat
  chargeInterval : Nat
  topUpPeriod : Nat
  deriving DecidableEq, Repr

/-! ## Feed Planner -/

/-- Starved reasons (R86, R92); CONDITIONING carries the earliest ready time. -/
inductive Starved
  | conditioning (earliest : Nat) | buried | nothing | queueFull
  deriving DecidableEq, Repr

/-- Causes of a delivery failure (R94, R95, R96). -/
inductive FailCause
  | task (r : FailReason) | digFailed | reservationLost
  deriving DecidableEq, Repr

/-- Last failure of a stand's delivery (R86). -/
structure LastFailure where
  cause : FailCause
  time : Nat
  task : Nat
  roll : Option Nat
  deriving DecidableEq, Repr

/-- Route figures the Fleet Dispatcher hands with a report (R97, R129): the length still ahead, the length from the pick
place to the stand, and the vehicle's nominal speed. -/
structure Figures where
  ahead : Nat
  toStand : Option Nat
  speed : Nat
  deriving DecidableEq, Repr

/-- What the Stand Sequencer hands the Feed Planner of a stand (R84, R86). -/
structure StandFacts where
  present : Bool
  state : StandState
  auto : Bool
  assignment : Option (Nat × WidthClass)
  standby : Option Nat
  standbyReady : Bool
  loading : Option Vehicle
  prepStart : Option Nat
  deriving DecidableEq, Repr

/-- Delivery record of a stand (R86), with the copies the Feed Planner decides from and the figures last handed. -/
structure Delivery where
  task : Option Nat
  state : Option TaskState
  roll : Option Nat
  dig : List Nat
  starved : Option Starved
  hold : Bool
  lastFail : Option LastFailure
  estimate : Option Nat
  slack : Option Int
  facts : StandFacts
  time : Option Nat
  deadline : Option Nat
  figures : Option Figures
  deriving DecidableEq, Repr

/-- Orders of a press: SLOW (R99), STOP and its release mark (R100). -/
structure PressOrders where
  slow : Bool
  stop : Bool
  release : Bool
  deriving DecidableEq, Repr

/-- Delivery records, press orders, and D, M and the overheads of PRESS FEED CONFIG (R101). -/
structure FeedPlanner where
  stands : Vector Delivery 24
  presses : Vector PressOrders 4
  estimate : Nat
  margin : Nat
  pickOverhead : Nat
  placeOverhead : Nat
  deriving DecidableEq, Repr

/-! ## Lock Unit -/

/-- A node record (R104). -/
structure NodeRec where
  kind : NodeKind
  escape : Option Node
  deriving DecidableEq, Repr

/-- A segment record (R105). -/
structure SegRec where
  a : Node
  b : Node
  length : Nat
  attr : SegAttr
  direction : Direction
  deriving DecidableEq, Repr

/-- A route record (R106). -/
structure RouteRec where
  origin : Node
  dest : Node
  segs : List Seg
  total : Option Nat
  deriving DecidableEq, Repr

/-- Lane purposes (R22). -/
inductive Purpose
  | pick | place | check
  deriving DecidableEq, Repr

/-- A segment of a run as the run keeps it (R109): number, far node in the run's direction, length and attribute. -/
structure RunSeg where
  seg : Seg
  far : Node
  length : Nat
  attr : SegAttr
  deriving DecidableEq, Repr

/-- A run: its segments in driving order, start and end node, the dm of route that follow it, whether it is a detour. -/
structure Run where
  segs : List RunSeg
  start : Node
  stop : Node
  after : Nat
  detour : Bool
  deriving DecidableEq, Repr

/-- A granted run in progress (R112, R114): how many of its segments are passed, and the node last reported on it. -/
structure Granted where
  run : Run
  passed : Nat
  last : Node
  deriving DecidableEq, Repr

/-- The first lock found held at a grant attempt (R120). -/
inductive HeldLock
  | segment (s : Seg) | node (n : Node) | lane (l : Nat) | door (d : Fin 2)
  deriving DecidableEq, Repr

/-- An entry of the wait list (R115). -/
structure WaitEntry where
  veh : Vehicle
  run : Run
  lane : Option Nat
  purpose : Purpose
  doors : List (Fin 2)
  deadline : Option Nat
  since : Nat
  flag : Bool
  held : Option HeldLock
  deriving DecidableEq, Repr

/-- Floor plan, lock table, granted runs and wait list. -/
structure LockUnit where
  nodes : Vector (Option NodeRec) 128
  segs : Vector (Option SegRec) 192
  routes : Vector (Option RouteRec) 256
  segLocks : Vector (Option Vehicle) 192
  nodeLocks : Vector (Option Vehicle) 128
  runs : Vector (Option Granted) 12
  waits : List WaitEntry
  deriving DecidableEq, Repr

/-! ## Fleet Link -/

/-- Orders to a vehicle (R150). -/
inductive Order
  | go (segs : List Seg) (stop : Node)
  | pickRead | lift | backout | place | dock | undock | halt | doze | sleep | wake | home
  deriving DecidableEq, Repr

/-- Motions of a status frame (R152). -/
inductive Motion
  | stopped | moving | lifting | lowering | docked
  deriving DecidableEq, Repr

/-- Events of a status frame (R152), NONE left out; a node is absent when the frame carries the mark for none (R153). -/
inductive VehEvent
  | passed (n : Option Node) | at (n : Option Node) | tag (t : Tag) | lifted | placed | homeReached (n : Option Node)
  | error (code : Nat)
  deriving DecidableEq, Repr

/-- Last status of a vehicle (R148). -/
structure LastStatus where
  motion : Motion
  node : Option Node
  loaded : Bool
  charging : Bool
  deriving DecidableEq, Repr

/-- A status frame's fields (R152). -/
structure StatusFields where
  veh : Vehicle
  count : Nat
  status : LastStatus
  event : Option VehEvent
  number : Nat
  deriving DecidableEq, Repr

/-- A link record (R148). `awaitMotion`: DOCK or UNDOCK is acknowledged and its report waits on the motion (R151). `fresh`:
the vehicle was enrolled during the running poll cycle, and is visited from the next one (R157). -/
structure LinkRec where
  count : Nat
  order : Option Order
  echoed : Bool
  misses : Nat
  lastEvent : Option Nat
  gaps : Nat
  wakeExpiry : Option Nat
  status : Option LastStatus
  awaitMotion : Bool
  fresh : Bool
  deriving DecidableEq, Repr

/-- A visit in progress: the vehicle addressed, the tick by which the part has sent its frame and the reply window opens, the
tick at which the window has passed (R153), whether a corrupt frame has come in the window, which then ends the visit with
no reply taken (R153), and whether the vehicle was removed meanwhile (R157). -/
structure Visit where
  veh : Vehicle
  opens : Nat
  closes : Nat
  spoiled : Bool
  removed : Bool
  deriving DecidableEq, Repr

/-- Link records, cycle number, the visit in progress, and the frame the part last sent on the Fleet Link (R158). -/
structure FleetLink where
  links : Vector LinkRec 12
  cycle : Nat
  visit : Option Visit
  sent : Option (List Byte)
  deriving DecidableEq, Repr

/-! ## Count Unit -/

/-- Reasons of a waste run (R160). -/
inductive WasteReason
  | brk | startup | splice | plate | other
  deriving DecidableEq, Repr

/-- The nine counters of a scope (R160). -/
structure Scope where
  gross : Nat
  good : Nat
  waste : Nat
  brk : Nat
  startup : Nat
  splice : Nat
  plate : Nat
  other : Nat
  web : Nat
  deriving DecidableEq, Repr

/-- An entry of the splice table (R160). -/
structure SpliceEntry where
  stand : Stand
  roll : Nat
  stamp : Nat
  deriving DecidableEq, Repr

/-- An entry of the run ring (R169). -/
structure WasteRun where
  number : Nat
  start : Nat
  copies : Nat
  reason : WasteReason
  cause : Option (Stand × Nat)
  isOpen : Bool
  deriving DecidableEq, Repr

/-- A press count record (R160). -/
structure CountRec where
  cutOff : Nat
  pulses : Nat
  edge : CopyEdge
  polarity : GatePolarity
  window : Nat
  pendPulses : Option Nat
  pendEdge : Option CopyEdge
  prescaler : Nat
  totals : Scope
  edition : Scope
  remainder : Nat
  breakMark : Bool
  startupMark : Bool
  plateMark : Bool
  splices : List SpliceEntry
  ring : List WasteRun
  lastRun : Nat
  target : Nat
  allowance : Nat
  targetReached : Bool
  allowancePassed : Bool
  saturated : Bool
  deriving DecidableEq, Repr

/-! ## Control Line Port, Hall Clock and pins -/

/-- Result codes (Conventions; R184). -/
inductive Result
  | ok | okClamped | badFrame | unknownKind | badState | busy | notFound | tableFull | locked | conflict
  deriving DecidableEq, Repr

/-- A reply as its owning block forms it: the result code and the bytes that follow it (R184, R187). -/
structure Reply where
  result : Result
  body : List Byte
  deriving DecidableEq, Repr

/-- Receiver states (R185), each with the bytes of the partial frame after the start byte. -/
inductive Rx
  | hunt
  | length (first : Option Byte)
  | body (len : Nat) (got : List Byte)
  | check (got : List Byte) (first : Option Byte)
  deriving DecidableEq, Repr

/-- Line speed selected by the RATE pins (R183), receiver and the tick of its last byte, input buffer, reply queue, the
frame being transmitted, and the reply an owning block formed last. -/
structure LinePort where
  rate : Fin 4
  rx : Rx
  rxTick : Nat
  buffer : List ClFrame
  replies : List (List Byte)
  tx : Option (List Byte)
  lastReply : Option Reply
  deriving DecidableEq, Repr

/-- Ticks since hardware reset and hall time (R191). -/
structure HallClock where
  tick : Nat
  hall : Nat
  deriving DecidableEq, Repr

/-- Levels of the press inputs that a rule reads as levels: RUN (R63, R98) and GATE as last sampled (R163). -/
structure PressPins where
  run : Bool
  gate : Bool
  deriving DecidableEq, Repr

/-! ## Hand-offs between blocks -/

/-- A task that has ended, as the Feed Planner is told of it (R126). -/
structure EndedTask where
  id : Nat
  kind : TaskKind
  roll : Option Nat
  result : TaskResult
  deriving DecidableEq, Repr

/-- A hand-off that one block has made and the receiving block has not yet taken (R84: "The receiving block takes it when it
arrives"). -/
inductive Msg
  /-- SSQ to FP: a stand's facts; `autoOn` on a STAND AUTO on, `fresh` when the stand was made present or absent -/
  | fpStand (st : Stand) (facts : StandFacts) (autoOn fresh : Bool)
  /-- PJU to FP: T and the delivery deadline of a stand (R52, R53) -/
  | fpTime (st : Stand) (time deadline : Nat)
  /-- to FP: a retry cause (R93) -/
  | fpRetry
  /-- FD to FP: a queue slot frees (R93, R125) -/
  | fpSlot
  /-- FP to itself: the roll choice of a stand's delivery is made again (R91) -/
  | fpChoose (st : Stand)
  /-- SU to FP: the reservation of a stand's delivery was cancelled in the store (R96) -/
  | fpLost (st : Stand) (roll : Nat)
  /-- FD to FP: state and figures of a DELIVER task (R95, R97) -/
  | fpTask (id : Nat) (state : TaskState) (figures : Option Figures)
  /-- FD to FP: the end of a DELIVER or RELOCATE task (R94, R95) -/
  | fpEnd (task : EndedTask)
  /-- to LU: something a run may need has freed (R115) -/
  | luExamine
  /-- LU to FD: a waiting run is granted (R130) -/
  | fdGranted (v : Vehicle)
  /-- LU to FD: REFUSED(LANE) (R112) -/
  | fdLaneRefused (v : Vehicle)
  /-- FD to itself: the vehicle begins or goes on with its task (R129, R130) -/
  | fdStart (v : Vehicle)
  /-- FD to itself: the vehicle stands IDLE, DOZE or SLEEP with no task (R127, R136, R137) -/
  | fdFree (v : Vehicle)
  /-- FD to itself: the arbiter runs (R129) -/
  | fdArbiter
  /-- LU to FD: runs may be asked (R109) -/
  | fdRuns
  /-- SSQ to FD: a stand's standby arm has cleared (R73) -/
  | fdArmClear (st : Stand)
  /-- FD to itself: a queue slot has freed (R125) -/
  | fdSlot
  /-- FP to itself: the creation test of a stand whose delivery has ended is made (R95 step 5, R96) -/
  | fpCreate (st : Stand)
  deriving DecidableEq, Repr

/-! ## The whole part -/

/-- The state of the part. -/
structure State where
  clk : HallClock
  pins : Vector PressPins 4
  nu : NoticeUnit
  su : StoreUnit
  pju : ProjectionUnit
  ssq : Vector StandRec 24
  fp : FeedPlanner
  fd : FleetDispatcher
  lu : LockUnit
  fl : FleetLink
  cu : Vector CountRec 4
  clp : LinePort
  inbox : List Msg
  pending : List Instr
  deriving DecidableEq, Repr

/-- Faults: none. Every command of the part has an effect in every state the spec describes, so no command stops the
machine; the type has no constructor. -/
inductive Fault
  deriving DecidableEq, Repr

/-- Refusals. -/
inductive Refusal
  /-- Raised by `exec` alone, for a command that has no meaning yet (safe: the machine stops where the hardware goes on). No
  arm of `exec` raises it in this model. -/
  | notModelled (mnemonic : String)
  deriving DecidableEq, Repr

/-! ## Hardware-reset values -/

/-- R176. -/
def NoticeEntry.reset : NoticeEntry := ⟨0, 0, false, false⟩

/-- R180: every mask holds all the reasons of its kind (3, 4, 1, 7, 12 and 7 of them), the global enable is off. -/
def NoticeUnit.reset : NoticeUnit :=
  { entries := Vector.replicate 44 NoticeEntry.reset
    masks := #v[0x7, 0xF, 0x1, 0x7F, 0xFFF, 0x7F]
    enable := false }

/-- R31. -/
def BayRec.reset : BayRec := ⟨.free, false, none⟩

/-- R34. -/
def DoorRec.reset : DoorRec := ⟨6, 300, [], none, [], [], false⟩

/-- R3, R9, R20, R31, R34. -/
def StoreUnit.reset : StoreUnit :=
  { rolls := [], lanes := [], clearTime := 4
    bays := Vector.replicate 8 BayRec.reset
    doors := Vector.replicate 2 DoorRec.reset
    grades := Vector.replicate 16 480 }

/-- R39. -/
def PressProj.reset : PressProj := ⟨1000, none, 0, 0, 0, [0, 0, 0, 0, 0, 0, 0, 0, 0, 0], 0⟩

/-- R43, R51. -/
def Reserves.reset : Reserves := ⟨80, 30, 40⟩

/-- R43. -/
def StandProj.reset : StandProj :=
  { force := Reserves.reset, pend := none, runPhase := .discard, runPeriod := 0, faultDist := 0, indexFault := false
    ring := [], rejects := 0, time := none, deadline := none, expected := none, sbPhase := .discard, sbPeriod := 0
    prevW := none, lastW := none }

def ProjectionUnit.reset : ProjectionUnit :=
  ⟨Vector.replicate 4 PressProj.reset, Vector.replicate 24 StandProj.reset⟩

/-- R59, the defaults. -/
def StandCfg.reset : StandCfg := ⟨80, 30, 40, 25, 180, 5, 800, 60⟩

/-- R61. -/
def WatchSet.none : WatchSet := ⟨false, false, false⟩

/-- R61. -/
def StandRec.reset : StandRec :=
  { present := false, cfg := StandCfg.reset, armA := none, armB := none, running := none, state := .empty, auto := false
    assignment := none, watch := WatchSet.none, manual := false, loading := none, prepStart := none, timer := none
    ejectFault := false, lastFault := none, fault := none, autoClear := false }

/-- R86: the copies hold the values of R61 and R43. -/
def StandFacts.reset : StandFacts := ⟨false, .empty, false, none, none, false, none, none⟩

/-- R86. -/
def Delivery.reset : Delivery :=
  { task := none, state := none, roll := none, dig := [], starved := none, hold := false, lastFail := none
    estimate := none, slack := none, facts := StandFacts.reset, time := none, deadline := none, figures := none }

/-- R99, R100. -/
def PressOrders.reset : PressOrders := ⟨false, false, false⟩

/-- R86, R99, R100, R101. -/
def FeedPlanner.reset : FeedPlanner :=
  { stands := Vector.replicate 24 Delivery.reset, presses := Vector.replicate 4 PressOrders.reset
    estimate := 300, margin := 60, pickOverhead := 60, placeOverhead := 45 }

/-- R122. -/
def VehRec.reset : VehRec :=
  { enrolled := false, speed := 1000, state := none, cause := none, halted := false, node := none, load := none
    task := none, balance := 0, interval := 0, topUp := 0, chargeDue := false, barred := false, power := .awake
    reachable := false, entry := none, passages := 0, outcome := none, errorCode := none, phase := .none, work := none
    expected := none, workBegun := false, backDue := false, undocking := false, homeNext := false, delayFrom := 0
    parkWait := false, sleepTested := false }

/-- R107, R122, R125, R145. -/
def FleetDispatcher.reset : FleetDispatcher :=
  { vehicles := Vector.replicate 12 VehRec.reset, tasks := [], lastId := 0, fullMark := false, fleet := .stopped
    holdTimeout := 90, parkDelay := 120, sleepDelay := 900, chargeInterval := 15, topUpPeriod := 3 }

/-- R104, R105, R106, R108, R115. -/
def LockUnit.reset : LockUnit :=
  { nodes := Vector.replicate 128 none, segs := Vector.replicate 192 none, routes := Vector.replicate 256 none
    segLocks := Vector.replicate 192 none, nodeLocks := Vector.replicate 128 none, runs := Vector.replicate 12 none
    waits := [] }

/-- R148, the column "At enrolment". -/
def LinkRec.reset : LinkRec :=
  { count := 0, order := none, echoed := true, misses := 0, lastEvent := none, gaps := 0, wakeExpiry := none
    status := none, awaitMotion := false, fresh := false }

/-- R148. -/
def FleetLink.reset : FleetLink := ⟨Vector.replicate 12 LinkRec.reset, 0, none, none⟩

/-- All nine counters at 0 (R160). -/
def Scope.zero : Scope := ⟨0, 0, 0, 0, 0, 0, 0, 0, 0⟩

/-- R160. -/
def CountRec.reset : CountRec :=
  { cutOff := 560, pulses := 1, edge := .rising, polarity := .wasteHigh, window := 300, pendPulses := none
    pendEdge := none, prescaler := 0, totals := Scope.zero, edition := Scope.zero, remainder := 0, breakMark := false
    startupMark := false, plateMark := false, splices := [], ring := [], lastRun := 0, target := 0, allowance := 0
    targetReached := false, allowancePassed := false, saturated := false }

/-- R183, R185, R186. -/
def LinePort.reset (rate : Fin 4) : LinePort := ⟨rate, .hunt, 0, [], [], none, none⟩

/-- The part right after a hardware reset at which the RATE pins read `rate` and the press inputs stand at `pins`: inputs
are driven from outside and keep their levels across a reset (11.8 note 2), everything else takes its reset value. -/
def State.afterReset (rate : Fin 4) (pins : Vector PressPins 4) (pending : List Instr) : State :=
  { clk := ⟨0, 0⟩, pins := pins, nu := NoticeUnit.reset, su := StoreUnit.reset, pju := ProjectionUnit.reset
    ssq := Vector.replicate 24 StandRec.reset, fp := FeedPlanner.reset, fd := FleetDispatcher.reset
    lu := LockUnit.reset, fl := FleetLink.reset, cu := Vector.replicate 4 CountRec.reset, clp := LinePort.reset rate
    inbox := [], pending := pending }

/-- The machine right after reset, its RATE pins and its press inputs low (DESIGN CHOICE, log 6: pins are driven from
outside), with no command waiting. -/
def State.reset : State :=
  State.afterReset 0 (Vector.replicate 4 ⟨false, false⟩) []

end Sys2Proof.Machine
end

