-- ==== Sys2Proof/Machine/Ops.lean ====
section
/-! DEFINITION. The named operations over the state that every block uses: reading and writing one record of a block,
posting a hand-off, forming the bytes of a reply, the two CRCs, ordering a list by keys, and clamping. -/

namespace Sys2Proof.Machine

/-! ## Numbers and lists -/

/-- "Clamped" (R1): the value, set to the bound it would pass. -/
def clamp (lo hi n : Nat) : Nat := max lo (min hi n)

/-- A number as an index below `n`, when it is one. -/
def fin? (n k : Nat) : Option (Fin n) := if h : k < n then some ⟨k, h⟩ else none

/-- A value "saturated" at the 32-bit limit (R1). -/
def satU32 (n : Nat) : Nat := min Config.maxU32 n

/-- One more, saturated at the 32-bit limit (R19, R171). -/
def satSucc (n : Nat) : Nat := satU32 (n + 1)

/-- Integer floor square root by bits (R1): `k` further bits of the root of `n`, `r` the root found so far. -/
def sqrtBits : Nat → Nat → Nat → Nat
  | 0, _, r => r
  | k + 1, n, r => if (r + 2 ^ k) * (r + 2 ^ k) ≤ n then sqrtBits k n (r + 2 ^ k) else sqrtBits k n r

/-- Integer floor square root of a number below 2^80 (R1, R54). -/
def isqrt (n : Nat) : Nat := sqrtBits 40 n 0

/-- Put `x` into a list ordered by `le`, behind the entries that are not after it. -/
def insertBy {α : Type} (le : α → α → Bool) (x : α) : List α → List α
  | [] => [x]
  | y :: ys => if le y x then y :: insertBy le x ys else x :: y :: ys

/-- The list in order of `le`; entries that `le` does not tell apart keep their order. -/
def sortBy {α : Type} (le : α → α → Bool) (xs : List α) : List α :=
  xs.foldl (fun acc x => insertBy le x acc) []

/-- The first entry that no other comes strictly before. -/
def firstBy? {α : Type} (lt : α → α → Bool) : List α → Option α
  | [] => none
  | x :: xs => some (xs.foldl (fun best y => if lt y best then y else best) x)

/-- Deadline order (R93, R115, R129): entries with a deadline first, earliest first; entries without one follow. -/
def deadlineLt : Option Nat → Option Nat → Bool
  | some a, some b => decide (a < b)
  | some _, none => true
  | none, _ => false

/-! ## Bytes of replies (R187) -/

/-- A 1-byte field. -/
def u8 (n : Nat) : List Byte := bytesLE 1 n
/-- A 2-byte field. -/
def u16 (n : Nat) : List Byte := bytesLE 2 n
/-- A 4-byte field. -/
def u32 (n : Nat) : List Byte := bytesLE 4 n
/-- A flag: 0 clear, 1 set. -/
def flag (b : Bool) : List Byte := u8 (if b then 1 else 0)
/-- An optional field: a presence byte, then the value when present. -/
def optField {α : Type} (f : α → List Byte) : Option α → List Byte
  | none => u8 0
  | some a => u8 1 ++ f a
/-- A list: its entry count, then the entries. -/
def listField {α : Type} (f : α → List Byte) (xs : List α) : List Byte := u8 xs.length ++ (xs.map f).flatten
/-- A signed 1-byte field in two's complement. -/
def s8 (i : Int) : List Byte := u8 (BitVec.ofInt 8 i).toNat
/-- A signed 4-byte field in two's complement. -/
def s32 (i : Int) : List Byte := u32 (BitVec.ofInt 32 i).toNat
/-- A reason set, mask or watch set (R184). -/
def setField (r : ReasonSet) : List Byte := u16 r.toNat

/-! ## CRCs -/

/-- One bit of the CRC-16 with polynomial 0x1021 (R184). -/
def crc16Bit (c : BitVec 16) : BitVec 16 := if c.msb then (c <<< 1) ^^^ 0x1021#16 else c <<< 1

/-- One byte of the CRC-16, most significant bit first. -/
def crc16Byte (c : BitVec 16) (b : Byte) : BitVec 16 :=
  let x := c ^^^ (b.setWidth 16 <<< 8)
  crc16Bit (crc16Bit (crc16Bit (crc16Bit (crc16Bit (crc16Bit (crc16Bit (crc16Bit x)))))))

/-- The CRC of a Control Line frame: initial value 0xFFFF, no final inversion (R184). -/
def crc16 (bs : List Byte) : BitVec 16 := bs.foldl crc16Byte 0xFFFF#16

/-- One bit of the CRC-8 with polynomial 0x07 (R158). -/
def crc8Bit (c : Byte) : Byte := if c.msb then (c <<< 1) ^^^ 0x07#8 else c <<< 1

/-- One byte of the CRC-8, most significant bit first. -/
def crc8Byte (c b : Byte) : Byte :=
  crc8Bit (crc8Bit (crc8Bit (crc8Bit (crc8Bit (crc8Bit (crc8Bit (crc8Bit (c ^^^ b))))))))

/-- The CRC of a Fleet Link frame: initial value 0x00 (R158). -/
def crc8 (bs : List Byte) : Byte := bs.foldl crc8Byte 0#8

/-! ## Numbering (Conventions) -/

/-- The press of a stand: s / 6 (chapter 4). -/
def pressOf (st : Stand) : Press := ⟨st.val / 6, by omega⟩

/-- The stands of a press. -/
def standsOf (p : Press) : List Stand := (List.finRange 24).filter (fun st => pressOf st == p)

/-- The other arm. -/
def Arm.other : Arm → Arm
  | .a => .b
  | .b => .a

/-! ## Records of the blocks -/

/-- Write a stand record (R61). -/
def State.setStand (s : State) (st : Stand) (r : StandRec) : State := { s with ssq := s.ssq.set st r }
/-- Write a stand's projection record (R43). -/
def State.setProj (s : State) (st : Stand) (r : StandProj) : State :=
  { s with pju := { s.pju with stand := s.pju.stand.set st r } }
/-- Write a press's projection record (R39). -/
def State.setPressProj (s : State) (p : Press) (r : PressProj) : State :=
  { s with pju := { s.pju with press := s.pju.press.set p r } }
/-- Write a delivery record (R86). -/
def State.setDelivery (s : State) (st : Stand) (r : Delivery) : State :=
  { s with fp := { s.fp with stands := s.fp.stands.set st r } }
/-- Write a press's orders (R99, R100). -/
def State.setOrders (s : State) (p : Press) (r : PressOrders) : State :=
  { s with fp := { s.fp with presses := s.fp.presses.set p r } }
/-- Write a vehicle record (R122). -/
def State.setVeh (s : State) (v : Vehicle) (r : VehRec) : State :=
  { s with fd := { s.fd with vehicles := s.fd.vehicles.set v r } }
/-- Write the Task Queue (R125). -/
def State.setTasks (s : State) (ts : List TaskRec) : State := { s with fd := { s.fd with tasks := ts } }
/-- Write a link record (R148). -/
def State.setLink (s : State) (v : Vehicle) (r : LinkRec) : State :=
  { s with fl := { s.fl with links := s.fl.links.set v r } }
/-- Write a press count record (R160). -/
def State.setCount (s : State) (p : Press) (r : CountRec) : State := { s with cu := s.cu.set p r }
/-- Write the Store Unit. -/
def State.setStore (s : State) (su : StoreUnit) : State := { s with su := su }
/-- Write the Lock Unit. -/
def State.setLocks (s : State) (lu : LockUnit) : State := { s with lu := lu }
/-- Write a vehicle's granted run (R112). -/
def State.setRun (s : State) (v : Vehicle) (g : Option Granted) : State :=
  { s with lu := { s.lu with runs := s.lu.runs.set v g } }
/-- Write a press's input levels. -/
def State.setPins (s : State) (p : Press) (r : PressPins) : State := { s with pins := s.pins.set p r }

/-- Change a vehicle record. -/
def State.modVeh (s : State) (v : Vehicle) (f : VehRec → VehRec) : State := s.setVeh v (f s.fd.vehicles[v])
/-- Change a stand record. -/
def State.modStand (s : State) (st : Stand) (f : StandRec → StandRec) : State := s.setStand st (f s.ssq[st])
/-- Change a stand's projection record. -/
def State.modProj (s : State) (st : Stand) (f : StandProj → StandProj) : State := s.setProj st (f s.pju.stand[st])
/-- Change a delivery record. -/
def State.modDelivery (s : State) (st : Stand) (f : Delivery → Delivery) : State := s.setDelivery st (f s.fp.stands[st])
/-- Change a press count record. -/
def State.modCount (s : State) (p : Press) (f : CountRec → CountRec) : State := s.setCount p (f s.cu[p])

/-- A hand-off is made: it goes behind those already under way (log 1). -/
def State.post (s : State) (m : Msg) : State := { s with inbox := s.inbox ++ [m] }

/-- A hand-off that is taken before those already under way: what a rule has follow at once (R95, R96, R125). -/
def State.postFirst (s : State) (m : Msg) : State := { s with inbox := m :: s.inbox }

/-- The task record with an id (R124). -/
def State.task? (s : State) (id : Nat) : Option TaskRec := s.fd.tasks.find? (fun t => t.id == id)

/-- Change the task record with an id. -/
def State.modTask (s : State) (id : Nat) (f : TaskRec → TaskRec) : State :=
  s.setTasks (s.fd.tasks.map (fun t => if t.id == id then f t else t))

/-- The task a vehicle has (R122). -/
def State.vehTask? (s : State) (v : Vehicle) : Option TaskRec := s.fd.vehicles[v].task.bind s.task?

/-- A duration as the hall time less a held hall time; a negative result is taken as 0 (R191). -/
def State.since (s : State) (t : Nat) : Nat := s.clk.hall - t

/-- The owning block forms its reply (R186). -/
def State.reply (s : State) (r : Reply) : State := { s with clp := { s.clp with lastReply := some r } }

/-- A reply that holds its result code alone (R187). -/
def Reply.code (r : Result) : Reply := ⟨r, []⟩

/-- OK, or OK_CLAMPED when a field was set to its limit (R187). -/
def okOr (clamped : Bool) : Result := if clamped then .okClamped else .ok

/-- A field kept when omitted and clamped when named; the flag tells whether it was clamped (R187). -/
def rangeField (lo hi : Nat) (held : Nat) : Option Nat → Nat × Bool
  | none => (held, false)
  | some n => (clamp lo hi n, clamp lo hi n != n)

end Sys2Proof.Machine
end

