-- ==== Sys2Proof/Machine/Flags.lean ====
section
/-! DEFINITION. The Notice Unit (chapter 10): pending, seen and announced flags, masks and the transmit set; and the levels
of the part's outputs, which follow the records (R37, R64, R99, R100). -/

namespace Sys2Proof.Machine

/-! ## Sources and reasons -/

/-- Source numbers (R176). -/
def srcStore : Fin 44 := 0
def srcFleet : Fin 44 := 1
def srcDoor (d : Fin 2) : Fin 44 := ⟨2 + d.val, by omega⟩
def srcPress (p : Press) : Fin 44 := ⟨4 + p.val, by omega⟩
def srcStand (st : Stand) : Fin 44 := ⟨8 + st.val, by omega⟩
def srcVeh (v : Vehicle) : Fin 44 := ⟨32 + v.val, by omega⟩

/-- The kind of a source, in the numbering of R187: STORE 0, FLEET 1, DOOR 2, PRESS 3, STAND 4, VEH 5. -/
def kindOf (i : Fin 44) : Fin 6 :=
  if i.val = 0 then 0 else if i.val = 1 then 1 else if i.val < 4 then 2 else if i.val < 8 then 3
  else if i.val < 32 then 4 else 5

/-- All the reasons of a kind (chapter 10.2). -/
def kindSet (k : Fin 6) : ReasonSet := NoticeUnit.reset.masks[k]

/-- The reasons of the Notice Table, kind by kind in the order of their numbers (chapter 10.2). -/
inductive Reason
  | rollReady | laneSuspect | tableFullHit
  | queueFull | planInvalid | motionReset | fleetStopped
  | windowFull
  | slowOn | slowOff | stopOn | stopOff | editionDone | allowanceExceeded | countSaturated
  | starved | armedRise | armedFall | watchRev | watchNow | spliced | spliceFault | ejectFault | runout | indexFault
  | measureReset | deliveryFailed
  | taskDone | taskFailed | holdTimeout | linkLost | positionFault | chargeBarred | homeFailed
  deriving DecidableEq, Repr

/-- The number of a reason within its kind (chapter 10.2). -/
def Reason.number : Reason → Nat
  | .rollReady => 0 | .laneSuspect => 1 | .tableFullHit => 2
  | .queueFull => 0 | .planInvalid => 1 | .motionReset => 2 | .fleetStopped => 3
  | .windowFull => 0
  | .slowOn => 0 | .slowOff => 1 | .stopOn => 2 | .stopOff => 3 | .editionDone => 4 | .allowanceExceeded => 5
  | .countSaturated => 6
  | .starved => 0 | .armedRise => 1 | .armedFall => 2 | .watchRev => 3 | .watchNow => 4 | .spliced => 5
  | .spliceFault => 6 | .ejectFault => 7 | .runout => 8 | .indexFault => 9 | .measureReset => 10 | .deliveryFailed => 11
  | .taskDone => 0 | .taskFailed => 1 | .holdTimeout => 2 | .linkLost => 3 | .positionFault => 4 | .chargeBarred => 5
  | .homeFailed => 6

/-- The set that holds one reason (R184). -/
def Reason.bit (r : Reason) : ReasonSet := 1#16 <<< r.number

/-! ## Bookkeeping -/

/-- What a NOTICE of the source would carry: its pending set within its kind's mask (R181, R182). -/
def NoticeUnit.unmasked (nu : NoticeUnit) (i : Fin 44) : ReasonSet := nu.entries[i].pending &&& nu.masks[kindOf i]

/-- Write an entry. -/
def NoticeUnit.setEntry (nu : NoticeUnit) (i : Fin 44) (e : NoticeEntry) : NoticeUnit :=
  { nu with entries := nu.entries.set i e }

/-- The announcement test of an entry (R181). -/
def NoticeUnit.test (nu : NoticeUnit) (i : Fin 44) : NoticeUnit :=
  if nu.enable && !nu.entries[i].announced && nu.unmasked i != 0 then
    nu.setEntry i { nu.entries[i] with announced := true, queued := true }
  else nu

/-- A raise (R177): the reason becomes pending and not seen, and the announcement test is made. -/
def NoticeUnit.raise (nu : NoticeUnit) (i : Fin 44) (r : ReasonSet) : NoticeUnit :=
  let e := nu.entries[i]
  (nu.setEntry i { e with pending := e.pending ||| r, seen := e.seen &&& ~~~r }).test i

/-- A fetch (R179), after its reply has been formed: seen reasons go, the rest become seen, announced is cleared and the
announcement test is made. -/
def NoticeUnit.fetch (nu : NoticeUnit) (i : Fin 44) : NoticeUnit :=
  let e := nu.entries[i]
  let left := e.pending &&& ~~~e.seen
  (nu.setEntry i { e with pending := left, seen := left, announced := false }).test i

/-- ATTENTION marks as seen what it lists (R178). -/
def NoticeUnit.markSeen (nu : NoticeUnit) : NoticeUnit :=
  { nu with entries := nu.entries.map (fun e => if e.pending = 0 then e else { e with seen := e.pending }) }

/-- The announcement test for every entry, in ascending source number (R180). -/
def NoticeUnit.testAll (nu : NoticeUnit) : NoticeUnit := (List.finRange 44).foldl NoticeUnit.test nu

/-- The global enable is turned off: sources waiting in the transmit set leave it, not announced (R180). -/
def NoticeUnit.unqueueAll (nu : NoticeUnit) : NoticeUnit :=
  { nu with entries := nu.entries.map (fun e => if e.queued then { e with queued := false, announced := false } else e) }

/-- The Notice Unit is asked for a NOTICE (R182): of the sources listed, the first in the transmit set that has unmasked
reasons pending; those before it that have none leave the set, not announced. -/
def NoticeUnit.take (nu : NoticeUnit) : List (Fin 44) → NoticeUnit × Option (Fin 44 × ReasonSet)
  | [] => (nu, none)
  | i :: is =>
    if nu.entries[i].queued then
      if nu.unmasked i != 0 then
        (nu.setEntry i { nu.entries[i] with queued := false }, some (i, nu.unmasked i))
      else ((nu.setEntry i { nu.entries[i] with queued := false, announced := false }).test i).take is
    else nu.take is

/-- A block raises a reason on a source (R177). -/
def State.raise (s : State) (i : Fin 44) (r : Reason) : State := { s with nu := s.nu.raise i r.bit }

/-- A raise that is made only when a condition holds (a watch condition, R82). -/
def State.raiseIf (s : State) (c : Bool) (i : Fin 44) (r : Reason) : State := if c then s.raise i r else s

/-- The fetch of a source (R179). -/
def State.fetch (s : State) (i : Fin 44) : State := { s with nu := s.nu.fetch i }

/-- What a fetch reply carries of its source: the pending set and the seen set (R179). -/
def State.noticeField (s : State) (i : Fin 44) : List Byte :=
  setField s.nu.entries[i].pending ++ setField s.nu.entries[i].seen

/-! ## Output levels -/

/-- The standby arm (R62). -/
def StandRec.standbyArm (r : StandRec) : Arm :=
  match r.running with
  | some x => Arm.other x
  | none => .a

/-- The roll on an arm. -/
def StandRec.armRoll (r : StandRec) : Arm → Option Nat
  | .a => r.armA
  | .b => r.armB

/-- ACCEL output (R64). -/
def State.accelOut (s : State) (st : Stand) : Bool :=
  s.ssq[st].state == .accelerating || s.ssq[st].state == .matched || s.ssq[st].state == .pasting

/-- PASTE output (R64). -/
def State.pasteOut (s : State) (st : Stand) : Bool := s.ssq[st].state == .pasting

/-- The state of the roll with a number. -/
def StoreUnit.rollState? (su : StoreUnit) (n : Nat) : Option RollState :=
  (su.rolls.find? (fun r => r.num == n)).map (·.state)

/-- Whether the standby arm holds a roll in the state given (R62). -/
def State.standbyHolds (s : State) (st : Stand) (rs : RollState) : Bool :=
  match s.ssq[st].armRoll s.ssq[st].standbyArm with
  | some n => s.su.rollState? n == some rs
  | none => false

/-- EJECT output (R64). -/
def State.ejectOut (s : State) (st : Stand) : Bool := s.standbyHolds st .butt

/-- SLOW output (R99). -/
def State.slowOut (s : State) (p : Press) : Bool := s.fp.presses[p].slow

/-- STOP output (R100). -/
def State.stopOut (s : State) (p : Press) : Bool := s.fp.presses[p].stop

/-- Door output (R37). -/
def State.doorOut (s : State) (d : Fin 2) : Bool := !s.su.doors[d].passages.isEmpty

end Sys2Proof.Machine
end

