-- ==== Sys2Proof/Machine/Store.lean ====
section
/-! DEFINITION. The Store Unit (chapters 1 and 2): roll records and their movements, lanes, bays and doors; and the
requests on rolls, lanes, bays, doors and the store. -/

namespace Sys2Proof.Machine

/-! ## Roll records -/

/-- The record of a roll number (R3). -/
def StoreUnit.roll? (su : StoreUnit) (n : Nat) : Option RollRec := su.rolls.find? (fun r => r.num == n)

/-- Change the record of a roll number; a write that names no record is dropped (R16). -/
def StoreUnit.modRoll (su : StoreUnit) (n : Nat) (f : RollRec → RollRec) : StoreUnit :=
  { su with rolls := su.rolls.map (fun r => if r.num == n then f r else r) }

/-- Add a record, keeping the table's form (ascending roll numbers). -/
def StoreUnit.addRoll (su : StoreUnit) (r : RollRec) : StoreUnit :=
  { su with rolls := insertBy (fun x y => decide (x.num ≤ y.num)) r su.rolls }

/-- Remove the record of a roll number (R14). -/
def StoreUnit.removeRoll (su : StoreUnit) (n : Nat) : StoreUnit :=
  { su with rolls := su.rolls.filter (fun r => r.num != n) }

/-- The record of a roll number. -/
def State.roll? (s : State) (n : Nat) : Option RollRec := s.su.roll? n

/-- Change the record of a roll number. -/
def State.modRoll (s : State) (n : Nat) (f : RollRec → RollRec) : State := s.setStore (s.su.modRoll n f)

/-- Change of state and location together (R5). -/
def RollRec.moveTo (r : RollRec) (st : RollState) (loc : Loc) : RollRec := { r with state := st, loc := loc }

/-- The roll becomes RUNNING at the time given (R16, R17): reservation cleared, splice-in time written. -/
def RollRec.toRunning (r : RollRec) (time : Nat) : RollRec :=
  { r with state := .running, reservation := none, spliceIn := some time }

/-- The roll becomes BUTT at the time given (R16, R17): butt length in whole metres, remaining length 0, splice-out time. -/
def RollRec.toButt (r : RollRec) (time : Nat) : RollRec :=
  { r with state := .butt, reservation := none, butt := some (r.remaining / 1000), remaining := 0, spliceOut := some time }

/-- The roll becomes SPENT with location NONE (R17). -/
def RollRec.toSpent (r : RollRec) : RollRec := { r with state := .spent, loc := .none, reservation := none }

/-- The reservation of a RESERVED roll is cleared: READY (R18). -/
def RollRec.unreserve (r : RollRec) : RollRec := { r with state := .ready, reservation := none }

/-! ## Lane lists -/

/-- Change a lane record. -/
def StoreUnit.modLane (su : StoreUnit) (l : Nat) (f : LaneRec → LaneRec) : StoreUnit :=
  { su with lanes := su.lanes.modify l f }

/-- The location of every roll of a list follows its position (R5 note 2, R20, R21). -/
def StoreUnit.relocate (su : StoreUnit) (l : Nat) (list : List Nat) : StoreUnit :=
  { su with rolls := su.rolls.map (fun r => match list.idxOf? r.num with
      | some d => { r with loc := .lane l d }
      | none => r) }

/-- Install a lane's list, with the locations of its rolls (R21). -/
def StoreUnit.setLaneList (su : StoreUnit) (l : Nat) (list : List Nat) : StoreUnit :=
  (su.modLane l ((fun r : LaneRec => { r with list := list }))).relocate l list

/-- The list of a lane; empty for a lane not configured. -/
def StoreUnit.laneList (su : StoreUnit) (l : Nat) : List Nat := (su.lanes[l]?.map (·.list)).getD []

/-- The roll at depth 0 of a lane (R21). -/
def StoreUnit.laneHead? (su : StoreUnit) (l : Nat) : Option Nat := (su.laneList l).head?

/-- Push a roll at depth 0, every other one deeper (R8, R21). -/
def StoreUnit.pushLane (su : StoreUnit) (l n : Nat) : StoreUnit := su.setLaneList l (n :: su.laneList l)

/-- Change a bay record. -/
def StoreUnit.setBay (su : StoreUnit) (b : Fin 8) (r : BayRec) : StoreUnit := { su with bays := su.bays.set b r }

/-- Change a door record. -/
def StoreUnit.setDoor (su : StoreUnit) (d : Fin 2) (r : DoorRec) : StoreUnit := { su with doors := su.doors.set d r }

/-- A roll leaves its lane, whose list closes up, or its bay, which becomes FREE (R21, R27, R33). -/
def StoreUnit.leavePlace (su : StoreUnit) (n : Nat) : StoreUnit :=
  match su.roll? n with
  | none => su
  | some r =>
    match r.loc with
    | .lane l _ => su.setLaneList l ((su.laneList l).filter (· != n))
    | .bay b => su.setBay b { su.bays[b] with state := .free }
    | _ => su

/-! ## Movements between places (R17) -/

/-- The states from which a roll may be lifted or re-inventoried (R17). -/
def RollState.inStore : RollState → Bool
  | .conditioning | .ready | .reserved => true
  | _ => false

/-- Whether a vehicle already carries a roll. -/
def StoreUnit.loaded (su : StoreUnit) (v : Vehicle) : Bool := su.rolls.any (fun r => r.loc == .vehicle v)

/-- LIFTED of roll `n` at a lane by a vehicle (R17, R21); none when refused. -/
def StoreUnit.liftLane (su : StoreUnit) (v : Vehicle) (l n : Nat) : Option StoreUnit :=
  match su.lanes[l]?, su.roll? n with
  | some lane, some r =>
    if lane.motion = .opened v ∧ lane.list.head? = some n ∧ r.state.inStore ∧ !su.loaded v then
      some ((su.setLaneList l lane.list.tail).modRoll n (·.moveTo .carried (.vehicle v)))
    else none
  | _, _ => none

/-- LIFTED of roll `n` at a bay by a vehicle (R17, R32); none when refused. -/
def StoreUnit.liftBay (su : StoreUnit) (v : Vehicle) (b : Fin 8) (n : Nat) : Option StoreUnit :=
  match su.roll? n with
  | some r =>
    if su.bays[b].state = .occupied n ∧ r.state.inStore ∧ !su.loaded v then
      some ((su.setBay b { su.bays[b] with state := .free }).modRoll n (·.moveTo .carried (.vehicle v)))
    else none
  | none => none

/-- The state a roll enters when it is set down in the store at hall time `now` (R17). -/
def RollRec.ripe (r : RollRec) (now : Nat) : RollState := if r.ready ≤ now then .ready else .conditioning

/-- A roll set down at a place of the store: ripe or not, its reservation cleared (R17). -/
def RollRec.setDown (r : RollRec) (now : Nat) (loc : Loc) : RollRec :=
  { r with state := r.ripe now, loc := loc, reservation := none }

/-- PLACED of roll `n` at a lane by a vehicle (R17, R21); none when refused. -/
def StoreUnit.placeLane (su : StoreUnit) (now : Nat) (v : Vehicle) (l n : Nat) : Option StoreUnit :=
  match su.lanes[l]?, su.roll? n with
  | some lane, some r =>
    if lane.motion = .opened v ∧ lane.list.length < lane.depth ∧ r.state = .carried ∧ r.loc = .vehicle v then
      some ((su.modRoll n (·.setDown now (.lane l 0))).pushLane l n)
    else none
  | _, _ => none

/-- A bay takes a placement by the vehicle of a task: FREE, or RESERVED for that task (R32). -/
def BayRec.takes (b : BayRec) (task : Option Nat) : Bool :=
  match b.state with
  | .free => true
  | .reserved k => task == some k
  | .occupied _ => false

/-- PLACED of roll `n` at a bay by the vehicle of task `task` (R17, R31, R32); none when refused. -/
def StoreUnit.placeBay (su : StoreUnit) (now : Nat) (v : Vehicle) (task : Option Nat) (b : Fin 8) (n : Nat) :
    Option StoreUnit :=
  match su.roll? n with
  | some r =>
    if su.bays[b].takes task = true ∧ r.state = .carried ∧ r.loc = .vehicle v then
      some ((su.setBay b { su.bays[b] with state := .occupied n }).modRoll n (·.setDown now (.bay b)))
    else none
  | none => none

/-- PLACED of roll `n` at a stand (R17): CARRIED on the vehicle with a reservation for the stand; none when refused. -/
def StoreUnit.placeStand (su : StoreUnit) (v : Vehicle) (st : Stand) (arm : Arm) (n : Nat) : Option StoreUnit :=
  match su.roll? n with
  | some r =>
    if r.state = .carried ∧ r.loc = .vehicle v ∧ r.reservation = some st then
      some (su.modRoll n (·.moveTo .standby (.stand st arm)))
    else none
  | none => none

/-- After a taken PLACED at a lane or bay: a roll that is READY raises ROLL_READY and is a retry cause (R17). -/
def State.placedReady (s : State) (n : Nat) : State :=
  if s.su.rollState? n = some .ready then (s.raise srcStore .rollReady).post .fpRetry else s

/-! ## Reservations (R18, R31) -/

/-- The Store Unit reserves a READY NORMAL roll for a stand; none when refused (R18). -/
def StoreUnit.reserveRoll (su : StoreUnit) (n : Nat) (st : Stand) : Option StoreUnit :=
  match su.roll? n with
  | some r =>
    if r.state = .ready ∧ r.mark = .normal then
      some (su.modRoll n (fun r => { r with state := .reserved, reservation := some st }))
    else none
  | none => none

/-- A delivery that has failed or been cancelled gives up the reservation of its roll (R18): RESERVED becomes READY, and a
CARRIED roll stays on its vehicle. -/
def State.clearReservation (s : State) (n : Nat) (st : Stand) : State :=
  match s.roll? n with
  | some r =>
    if r.reservation = some st ∧ r.state = .reserved then (s.modRoll n RollRec.unreserve).post .fpRetry
    else if r.reservation = some st ∧ r.state = .carried then s.modRoll n (fun r => { r with reservation := none })
    else s
  | none => s

/-- A bay is available for a reservation: FREE with SUSPECT clear (R31). -/
def BayRec.available (b : BayRec) : Bool := b.state == .free && !b.suspect

/-- The bays available, lowest first (R31). -/
def StoreUnit.freeBays (su : StoreUnit) : List (Fin 8) := (List.finRange 8).filter (fun b => su.bays[b].available)

/-- Reserve a bay for a task; none when refused (R31). -/
def StoreUnit.reserveBay (su : StoreUnit) (b : Fin 8) (task : Nat) : Option StoreUnit :=
  if su.bays[b].available then some (su.setBay b { su.bays[b] with state := .reserved task }) else none

/-- Release a bay for a task: FREE when it is RESERVED for it, a no-op otherwise (R31). A freed bay is a retry cause (R93). -/
def State.releaseBay (s : State) (b : Fin 8) (task : Nat) : State :=
  if s.su.bays[b].state = .reserved task then
    (s.setStore (s.su.setBay b { s.su.bays[b] with state := .free })).post .fpRetry
  else s

/-- The reservation of a RESERVED roll in the store is cancelled and reported to the Feed Planner (R12, R25). -/
def State.cancelReservation (s : State) (n : Nat) : State :=
  match s.roll? n with
  | some r =>
    match r.state, r.reservation with
    | .reserved, some st => ((s.modRoll n RollRec.unreserve).post (.fpLost st n)).post .fpRetry
    | _, _ => s
  | none => s

/-- A re-inventory leaves a roll out of its place (R17): SPENT, a RESERVED one reported as cancelled. -/
def State.leaveOut (s : State) (n : Nat) : State :=
  match s.roll? n with
  | some r =>
    match r.state, r.reservation with
    | .reserved, some st => (s.modRoll n RollRec.toSpent).post (.fpLost st n)
    | _, _ => s.modRoll n RollRec.toSpent
  | none => s

/-! ## Lane motion and flags (R22, R23, R24) -/

/-- The Store Unit's answers to an opening request (R22). -/
inductive LaneAnswer
  | refused | notFree | opened
  deriving DecidableEq, Repr

/-- An opening request of a lane for a vehicle and a purpose (R22). -/
def StoreUnit.openLane (su : StoreUnit) (l : Nat) (v : Vehicle) (p : Purpose) : StoreUnit × LaneAnswer :=
  match su.lanes[l]? with
  | none => (su, .refused)
  | some r =>
    if r.blocked then (su, .refused)
    else if r.suspect && p == .pick then (su, .refused)
    else match r.motion with
      | .opened w => if w = v then (su, .opened) else (su, .notFree)
      | .clearing _ => (su, .notFree)
      | .idle => (su.modLane l (fun r => { r with motion := .opened v }), .opened)

/-- A lane OPEN by the vehicle becomes CLEARING, with its expiry the clear time after the tick (R23). -/
def StoreUnit.clearLane (su : StoreUnit) (tick : Nat) (l : Nat) (v : Vehicle) : StoreUnit :=
  su.modLane l (fun r => if r.motion = .opened v then { r with motion := .clearing (tick + su.clearTime * 1000) } else r)

/-- Every lane OPEN by the vehicle becomes CLEARING (R23, R119, R143). -/
def StoreUnit.clearLanesOf (su : StoreUnit) (tick : Nat) (v : Vehicle) : StoreUnit :=
  { su with lanes := su.lanes.map (fun r =>
      if r.motion = .opened v then { r with motion := .clearing (tick + su.clearTime * 1000) } else r) }

/-- Whether the vehicle holds a lane OPEN. -/
def StoreUnit.opensLane (su : StoreUnit) (v : Vehicle) : Bool := su.lanes.any (fun r => r.motion == .opened v)

/-- A CLEARING lane becomes IDLE and the Lock Unit is told (R23). -/
def State.laneToIdle (s : State) (l : Nat) : State :=
  match s.su.lanes[l]? with
  | some r =>
    match r.motion with
    | .clearing _ => (s.setStore (s.su.modLane l (fun r => { r with motion := .idle }))).post .luExamine
    | _ => s
  | none => s

/-- The Fleet Dispatcher reports a failed pick at a lane with the last tag read (R24). -/
def State.suspectLane (s : State) (l : Nat) (t : Tag) : State :=
  match s.su.lanes[l]? with
  | some r =>
    if r.suspect then s
    else (s.setStore (s.su.modLane l (fun r => { r with suspect := true, lastTag := some t }))).raise srcStore .laneSuspect
  | none => s

/-- The Fleet Dispatcher reports a failed pick at a bay with the last tag read (R32). -/
def State.suspectBay (s : State) (b : Fin 8) (t : Tag) : State :=
  match s.su.bays[b].state with
  | .occupied _ =>
    if s.su.bays[b].suspect then s
    else (s.setStore (s.su.setBay b { s.su.bays[b] with suspect := true, lastTag := some t })).raise srcStore .laneSuspect
  | _ => s

/-- The tag a trusted lane's head would give: the roll at depth 0, or NO_READ for an empty list (R24). -/
def StoreUnit.headTag (su : StoreUnit) (l : Nat) : Tag :=
  match su.laneHead? l with
  | some n => .roll n
  | none => .noRead

/-- A CHECK read at a lane (R24). -/
def State.checkRead (s : State) (l : Nat) (t : Tag) : State :=
  match s.su.lanes[l]? with
  | some r =>
    let match? := t == s.su.headTag l
    let s1 := s.setStore (s.su.modLane l (fun r => { r with suspect := !match?, lastTag := some t }))
    if match? then (if r.suspect then s1.post .fpRetry else s1)
    else if r.suspect then s1 else s1.raise srcStore .laneSuspect
  | none => s

/-! ## Doors (R35, R36, R37) -/

/-- The examination of a door at hall time `t`: times at or before t − W are dropped (R35). -/
def DoorRec.examine (d : DoorRec) (t : Nat) : DoorRec :=
  let old := d.openings.filter (fun x => decide (x + d.window ≤ t))
  { d with
    openings := d.openings.filter (fun x => !decide (x + d.window ≤ t))
    dropped := if old.isEmpty then d.dropped else some (old.foldl max 0) }

/-- The first and second conditions of R35 at hall time `t`, after the examination. -/
def DoorRec.room (d : DoorRec) (t : Nat) : Bool :=
  decide (d.openings.length < d.limit) &&
    (match d.dropped with
     | none => true
     | some x => decide (x + d.window ≤ t))

/-- The three conditions of R35 for a vehicle. -/
def DoorRec.permits (d : DoorRec) (t : Nat) (v : Vehicle) : Bool :=
  d.room t && (d.waits.isEmpty || d.waits.head? == some v)

/-- A vehicle leaves the wait list; an empty list clears the window-full notice (R36). -/
def DoorRec.leave (d : DoorRec) (v : Vehicle) : DoorRec :=
  let w := d.waits.filter (· != v)
  { d with waits := w, full := if w.isEmpty then false else d.full }

/-- A permitted opening (R35). -/
def DoorRec.permit (d : DoorRec) (t : Nat) (v : Vehicle) : DoorRec :=
  let d1 := d.leave v
  { d1 with openings := insertBy (fun x y => decide (x ≤ y)) t d1.openings, passages := if v ∈ d1.passages then d1.passages else d1.passages ++ [v] }

/-- A vehicle answered WAIT joins the wait list (R36). -/
def DoorRec.await (d : DoorRec) (v : Vehicle) : DoorRec :=
  if v ∈ d.waits then d
  else { d with waits := d.waits ++ [v], full := d.full || d.waits.isEmpty }

/-- The Lock Unit asks door `d` for an opening for a vehicle (R35, R36): true is PERMITTED, false is WAIT. -/
def State.askDoor (s : State) (d : Fin 2) (v : Vehicle) : State × Bool :=
  let door := s.su.doors[d].examine s.clk.hall
  if door.permits s.clk.hall v then (s.setStore (s.su.setDoor d (door.permit s.clk.hall v)), true)
  else
    ((s.setStore (s.su.setDoor d (door.await v))).raiseIf (door.waits.isEmpty && !door.full) (srcDoor d) .windowFull,
      false)

/-- A permitted opening is withdrawn inside a grant attempt (R35, R37). The wait list and the window-full mark stay as the
permit left them: a vehicle that stood in the list is not put back (DESIGN CHOICE, log 34). -/
def DoorRec.withdraw (d : DoorRec) (t : Nat) (v : Vehicle) : DoorRec :=
  { d with openings := d.openings.erase t, passages := d.passages.filter (· != v) }

/-- A vehicle's request is withdrawn from a door's wait list; when it stood at the front and the window permits, the new
front vehicle is told free at once (R36). -/
def State.leaveDoorWait (s : State) (v : Vehicle) (d : Fin 2) : State :=
  let door := s.su.doors[d]
  if v ∈ door.waits then
    let door1 := door.leave v
    let s1 := s.setStore (s.su.setDoor d door1)
    if door.waits.head? = some v ∧ !door1.waits.isEmpty ∧ (door1.examine s.clk.hall).room s.clk.hall then s1.post .luExamine
    else s1
  else s

/-- A vehicle leaves the passages of a door (R37). -/
def DoorRec.pass (d : DoorRec) (v : Vehicle) : DoorRec := { d with passages := d.passages.filter (· != v) }

/-- A vehicle leaves the passages of both doors (R119, R143). -/
def StoreUnit.leavePassages (su : StoreUnit) (v : Vehicle) : StoreUnit :=
  { su with doors := su.doors.map (fun d => d.pass v) }

/-- The once-a-second examination of a door with waiters (R36). -/
def State.secondDoor (s : State) (d : Fin 2) : State :=
  let door := s.su.doors[d]
  if door.waits.isEmpty then s
  else
    let door1 := door.examine s.clk.hall
    let s1 := s.setStore (s.su.setDoor d door1)
    if door1.room s.clk.hall then s1.post .luExamine else s1

/-! ## Numbers of enumerated values in replies (R187) -/

def WidthClass.code : WidthClass → Nat
  | .full => 0 | .threeQuarter => 1 | .half => 2
def RollState.code : RollState → Nat
  | .conditioning => 0 | .ready => 1 | .reserved => 2 | .carried => 3 | .standby => 4 | .running => 5 | .butt => 6
  | .spent => 7
def Mark.code : Mark → Nat
  | .normal => 0 | .held => 1
def Arm.code : Arm → Nat
  | .a => 0 | .b => 1

/-- A location: its kind, then its parameters in the order written. -/
def Loc.field : Loc → List Byte
  | .lane l d => u8 0 ++ u8 l ++ u8 d
  | .bay b => u8 1 ++ u8 b
  | .vehicle v => u8 2 ++ u8 v
  | .stand st arm => u8 3 ++ u8 st ++ u8 (Arm.code arm)
  | .none => u8 4

/-- A tag: the roll number, 0 for NO_READ (as in R158). -/
def Tag.field : Tag → List Byte
  | .noRead => u32 0
  | .roll n => u32 n

/-- A lane's motion state at the tick given: the vehicle when OPEN, the milliseconds to expiry when CLEARING
(R28; that STORE QUERY writes the same is DEDUCED, log 19). -/
def LaneMotion.field (tick : Nat) : LaneMotion → List Byte
  | .idle => u8 0
  | .opened v => u8 1 ++ u8 v
  | .clearing e => u8 2 ++ u32 (e - tick)

def BayState.field : BayState → List Byte
  | .free => u8 0
  | .reserved t => u8 1 ++ u16 t
  | .occupied n => u8 2 ++ u32 n

/-- Every field of a roll record in the order of R4, lengths in whole metres (R15). -/
def RollRec.field (r : RollRec) : List Byte :=
  u32 r.num ++ u8 r.grade ++ u8 (WidthClass.code r.width) ++ u16 r.caliper ++ u16 r.core ++ u16 r.label ++ u32 r.arrival ++
  u32 r.ready ++ u8 r.state.code ++ u8 r.mark.code ++ r.loc.field ++ optField (fun st => u8 st.val) r.reservation ++
  u16 (r.remaining / 1000) ++ flag r.measured ++ optField u16 r.stripped ++ optField u16 r.butt ++ u32 r.good ++
  u32 r.waste ++ u32 r.spliceWaste ++ optField u32 r.spliceIn ++ optField u32 r.spliceOut

/-! ## Requests on rolls and grades (chapter 1) -/

/-- Ranges of the label fields (R4). -/
def clampCaliper (n : Nat) : Nat := clamp 40 150 n
def clampCore (n : Nat) : Nat := clamp 70 200 n
def clampLabel (n : Nat) : Nat := clamp 100 40000 n

/-- A place named by a request, within the part's numbers (R7 test 1). -/
def StoreUnit.placeOk (su : StoreUnit) : Option PlaceArg → Bool
  | some (.lane l) => decide (l < su.lanes.length)
  | some (.bay b) => decide (b < 8)
  | none => false

/-- The record a taken ROLL IN creates (R4, R8). -/
def newRoll (now cond roll grade : Nat) (w : WidthClass) (caliper core label : Nat) (loc : Loc) : RollRec :=
  { num := roll, grade := grade, width := w, caliper := clampCaliper caliper, core := clampCore core
    label := clampLabel label, arrival := now, ready := satU32 (now + 60 * cond)
    state := if cond = 0 then .ready else .conditioning, mark := .normal, loc := loc, reservation := none
    remaining := clampLabel label * 1000, measured := false, stripped := none, butt := none, good := 0, waste := 0
    spliceWaste := 0, spliceIn := none, spliceOut := none }

/-- The effect of a taken ROLL IN (R8): the record is created, the place takes the roll, a full table raises
TABLE_FULL_HIT, and the Feed Planner is told. -/
def State.enterRoll (s : State) (su : StoreUnit) : State :=
  ((s.setStore su).raiseIf (decide (su.rolls.length = Config.rollTable)) srcStore .tableFullHit).post .fpRetry

/-- Reply to a taken ROLL IN: the ready time and the state entered (R7). -/
def rollInReply (clamped : Bool) (r : RollRec) : Reply := ⟨okOr clamped, u32 r.ready ++ u8 r.state.code⟩

/-- ROLL IN (R7, R8). -/
def reqRollIn (roll grade : Nat) (width : Option WidthClass) (caliper core label : Nat) (place : Option PlaceArg)
    (s : State) : State × Reply :=
  match width, fin? 16 grade with
  | some w, some g =>
    if roll = 0 ∨ s.su.placeOk place = false then (s, .code .badFrame)
    else if (s.roll? roll).isSome then (s, .code .conflict)
    else if Config.rollTable ≤ s.su.rolls.length then (s.raise srcStore .tableFullHit, .code .tableFull)
    else
      let clamped := clampCaliper caliper != caliper || clampCore core != core || clampLabel label != label
      match place with
      | some (.lane l) =>
        match s.su.lanes[l]? with
        | none => (s, .code .badFrame)
        | some lane =>
          match lane.motion with
          | .opened _ => (s, .code .busy)
          | _ =>
            if lane.depth ≤ lane.list.length then (s, .code .tableFull)
            else
              let r := newRoll s.clk.hall s.su.grades[g] roll grade w caliper core label (.lane l 0)
              (s.enterRoll ((s.su.addRoll r).pushLane l roll), rollInReply clamped r)
      | some (.bay b) =>
        match fin? 8 b with
        | none => (s, .code .badFrame)
        | some b =>
          if s.su.bays[b].state = .free then
            let r := newRoll s.clk.hall s.su.grades[g] roll grade w caliper core label (.bay b)
            (s.enterRoll ((s.su.addRoll r).setBay b { s.su.bays[b] with state := .occupied roll }),
              rollInReply clamped r)
          else (s, .code .conflict)
      | none => (s, .code .badFrame)
  | _, _ => (s, .code .badFrame)

/-- The record after an edit of the named fields (R11). -/
def RollRec.edited (r : RollRec) (grade : Option Nat) (width : Option WidthClass) (caliper core label : Option Nat) :
    RollRec :=
  { r with
    grade := grade.getD r.grade
    width := width.getD r.width
    caliper := (caliper.map clampCaliper).getD r.caliper
    core := (core.map clampCore).getD r.core
    label := (label.map clampLabel).getD r.label
    remaining := match label with
      | some n => clampLabel n * 1000
      | none => r.remaining }

/-- Whether a named field was set to its limit (R11). -/
def editClamped (caliper core label : Option Nat) : Bool :=
  caliper.any (fun n => clampCaliper n != n) || core.any (fun n => clampCore n != n) ||
    label.any (fun n => clampLabel n != n)

/-- ROLL EDIT (R11). -/
def reqRollEdit (roll : Nat) (grade : Option Nat) (width : Option (Option WidthClass)) (caliper core label : Option Nat)
    (s : State) : State × Reply :=
  match s.roll? roll with
  | none => (s, .code .notFound)
  | some r =>
    if r.state = .conditioning ∨ r.state = .ready then
      if grade.any (fun g => decide (15 < g)) ∨ width = some none then (s, .code .badFrame)
      else
        let r1 := r.edited grade width.join caliper core label
        let s1 := s.modRoll roll (fun _ => r1)
        (if r.state = .ready ∧ (r1.grade ≠ r.grade ∨ r1.width ≠ r.width) then s1.post .fpRetry else s1,
          .code (okOr (editClamped caliper core label)))
    else (s, .code .badState)

/-- ROLL HOLD (R12). -/
def reqRollHold (roll : Nat) (s : State) : State × Reply :=
  match s.roll? roll with
  | none => (s, .code .notFound)
  | some r =>
    if r.mark = .held then (s, .code .ok)
    else ((s.modRoll roll (fun r => { r with mark := .held })).cancelReservation roll, .code .ok)

/-- ROLL FREE (R13). -/
def reqRollFree (roll : Nat) (s : State) : State × Reply :=
  match s.roll? roll with
  | none => (s, .code .notFound)
  | some r =>
    let s1 := s.modRoll roll (fun r => { r with mark := .normal })
    (if r.mark = .held ∧ r.state = .ready then s1.post .fpRetry else s1, .code .ok)

/-- ROLL CLOSE (R14). -/
def reqRollClose (roll : Nat) (s : State) : State × Reply :=
  match s.roll? roll with
  | none => (s, .code .notFound)
  | some r =>
    if r.state = .spent then (s.setStore (s.su.removeRoll roll), ⟨.ok, r.field⟩) else (s, .code .badState)

/-- ROLL QUERY (R15). -/
def reqRollQuery (roll : Nat) (s : State) : State × Reply :=
  match s.roll? roll with
  | none => (s, .code .notFound)
  | some r => (s, ⟨.ok, r.field⟩)

/-- GRADE SET (R9). -/
def reqGradeSet (grade minutes : Nat) (s : State) : State × Reply :=
  match fin? 16 grade with
  | none => (s, .code .badFrame)
  | some g =>
    let m := clamp 0 4320 minutes
    (s.setStore { s.su with grades := s.su.grades.set g m }, ⟨okOr (m != minutes), u16 m⟩)

/-! ## Conditioning (R10) -/

/-- A record whose ready time has come at hall time `now` is promoted (R10). -/
def RollRec.promote (now : Nat) (r : RollRec) : RollRec :=
  if r.state = .conditioning ∧ r.ready ≤ now then { r with state := .ready } else r

/-- The once-a-second examination of every CONDITIONING record (R10). -/
def State.condition (s : State) : State :=
  if s.su.rolls.any (fun r => r.state == .conditioning && decide (r.ready ≤ s.clk.hall)) then
    ((s.setStore { s.su with rolls := s.su.rolls.map (RollRec.promote s.clk.hall) }).raise srcStore .rollReady).post
      .fpRetry
  else s

/-! ## Requests on lanes (chapter 2) -/

/-- Whether a lane is OPEN. -/
def LaneRec.isOpen (r : LaneRec) : Bool :=
  match r.motion with
  | .opened _ => true
  | _ => false

/-- Whether the lane a roll stands in, other than lane `l`, is OPEN (R27 test 8, R33 test 7). -/
def StoreUnit.inOpenLane (su : StoreUnit) (except : Option Nat) (n : Nat) : Bool :=
  match su.roll? n with
  | some r =>
    match r.loc with
    | .lane k _ => except != some k && (su.lanes[k]?.map LaneRec.isOpen).getD false
    | _ => false
  | none => false

/-- The tests 5 to 8 of R27 and 4 to 7 of R33 on the named rolls, in order. -/
def StoreUnit.namedTest (su : StoreUnit) (except : Option Nat) (ns : List Nat) : Option Result :=
  if ns.any (fun n => (su.roll? n).isNone) then some .notFound
  else if ns.any (fun n => su.rollState? n == some .spent) then some .badState
  else if ns.any (fun n => !((su.rollState? n).map RollState.inStore).getD false) then some .conflict
  else if ns.any (su.inOpenLane except) then some .busy
  else none

/-- Whether the named rolls free a bay by leaving it. -/
def StoreUnit.anyInBay (su : StoreUnit) (ns : List Nat) : Bool :=
  ns.any (fun n => match (su.roll? n).map (fun r : RollRec => r.loc) with
    | some (.bay _) => true
    | _ => false)

/-- Whether one of the named rolls leaves a SUSPECT lane or bay by being moved (R93). -/
def StoreUnit.anySuspect (su : StoreUnit) (ns : List Nat) : Bool :=
  ns.any (fun n => match (su.roll? n).map (fun r : RollRec => r.loc) with
    | some (.lane l _) => (su.lanes[l]?.map (·.suspect)).getD false
    | some (.bay b) => su.bays[b].suspect
    | _ => false)

/-- The effects of a taken LANE SET (R27). A freed bay, and a roll that leaves a SUSPECT lane or bay, the lane itself among
them, are retry causes (R93). Rolls left out become SPENT head first (DESIGN CHOICE, log 44). -/
def State.setLane (s : State) (l : Nat) (rolls : List Nat) : State :=
  let old := s.su.laneList l
  let wasSuspect := (s.su.lanes[l]?.map (·.suspect)).getD false
  let freed := s.su.anyInBay rolls || s.su.anySuspect rolls
  let s1 := (old.filter (fun n => !rolls.contains n)).foldl State.leaveOut s
  let su2 := (rolls.filter (fun n => !old.contains n)).foldl StoreUnit.leavePlace s1.su
  let s3 := s1.setStore ((su2.setLaneList l rolls).modLane l (fun r => { r with suspect := false, lastTag := none }))
  if wasSuspect || freed then s3.post .fpRetry else s3

/-- LANE SET (R27). -/
def reqLaneSet (l : Nat) (rolls : List Nat) (s : State) : State × Reply :=
  match s.su.lanes[l]? with
  | none => (s, .code .badFrame)
  | some lane =>
    if 24 < rolls.length ∨ 0 ∈ rolls ∨ ¬ rolls.Nodup then (s, .code .badFrame)
    else if lane.blocked = false then (s, .code .badState)
    else if lane.motion ≠ .idle then (s, .code .busy)
    else if lane.depth < rolls.length then (s, .code .tableFull)
    else match s.su.namedTest (some l) rolls with
      | some e => (s, .code e)
      | none => (s.setLane l rolls, .code .ok)

/-- LANE BLOCK (R25). Reservations go head first (DESIGN CHOICE, log 44). -/
def reqLaneBlock (l : Nat) (s : State) : State × Reply :=
  match s.su.lanes[l]? with
  | none => (s, .code .badFrame)
  | some lane =>
    if lane.blocked then (s, .code .ok)
    else (lane.list.foldl State.cancelReservation
      (s.setStore (s.su.modLane l (fun r => { r with blocked := true }))), .code .ok)

/-- Whether a lane holds a READY roll with mark NORMAL (R25). -/
def StoreUnit.usableIn (su : StoreUnit) (list : List Nat) : Bool :=
  list.any (fun n => match su.roll? n with
    | some r => r.state == .ready && r.mark == .normal
    | none => false)

/-- LANE UNBLOCK (R25). -/
def reqLaneUnblock (l : Nat) (s : State) : State × Reply :=
  match s.su.lanes[l]? with
  | none => (s, .code .badFrame)
  | some lane =>
    if lane.blocked then
      let s1 := s.setStore (s.su.modLane l (fun r => { r with blocked := false }))
      (if s.su.usableIn lane.list && !lane.suspect then s1.post .fpRetry else s1, .code .ok)
    else (s, .code .ok)

/-- LANE RELEASE (R26). -/
def reqLaneRelease (l : Nat) (s : State) : State × Reply :=
  match s.su.lanes[l]? with
  | none => (s, .code .badFrame)
  | some lane => if lane.isOpen then (s, .code .badState) else (s.laneToIdle l, .code .ok)

/-- LANE QUERY (R28). -/
def reqLaneQuery (l : Nat) (s : State) : State × Reply :=
  match s.su.lanes[l]? with
  | none => (s, .code .badFrame)
  | some r =>
    (s, ⟨.ok, u8 r.depth ++ r.motion.field s.clk.tick ++ flag r.blocked ++ flag r.suspect ++ optField Tag.field r.lastTag ++
      listField (fun n => u32 n ++ u8 (((s.su.rollState? n).map RollState.code).getD 0)) r.list⟩)

/-! ## Store configuration and query (R29, R30) -/

/-- A lane created by STORE CONFIG (R20). -/
def LaneRec.fresh (depth : Nat) : LaneRec := ⟨depth, .idle, false, false, none, []⟩

/-- The Lane Table a taken STORE CONFIG leaves (R29): kept lanes with their new depth, then fresh ones. -/
def newLanes (old : List LaneRec) (depths : List Nat) : List LaneRec :=
  (old.zipWith (fun r d => { r with depth := d }) depths) ++ (depths.drop old.length).map LaneRec.fresh

/-- Test 4 of R29: a lane to be removed holds a roll, or a kept lane holds more rolls than its new depth. -/
def layoutConflict (old : List LaneRec) (depths : List Nat) : Bool :=
  (old.drop depths.length).any (fun r => !r.list.isEmpty) ||
    (old.zip depths).any (fun p => decide (p.2 < p.1.list.length))

/-- Reply of a taken STORE CONFIG: lane count, depths and clear time in force (R29). The lane count is the entry count of
the depth list, one byte for both (DEDUCED, log 19). -/
def StoreUnit.layoutField (su : StoreUnit) : List Byte :=
  listField (fun r : LaneRec => u8 r.depth) su.lanes ++ u16 su.clearTime

/-- STORE CONFIG (R29). -/
def reqStoreConfig (depths : List Nat) (clearTime : Nat) (s : State) : State × Reply :=
  if Config.maxLanes < depths.length then (s, .code .badFrame)
  else if s.su.lanes.any (fun r => r.motion != .idle) then (s, .code .locked)
  else
    let ds := depths.map (clamp 1 24)
    let ct := clamp 1 30 clearTime
    if layoutConflict s.su.lanes ds then (s, .code .conflict)
    else
      let su := { s.su with lanes := newLanes s.su.lanes ds, clearTime := ct }
      (s.setStore su, ⟨okOr (ds != depths || ct != clearTime), su.layoutField⟩)

/-- The number of records in a roll state. -/
def StoreUnit.countIn (su : StoreUnit) (st : RollState) : Nat := (su.rolls.filter (fun r => r.state == st)).length

/-- What STORE QUERY returns of the store (R30), with each lane's last read tag, which R177 has the fetch reply show, after the
fields that R30 lists for the lane (DEDUCED, log 33). A lane's number of rolls is one byte, a count of list entries (DEDUCED,
log 19). -/
def StoreUnit.summaryField (su : StoreUnit) (tick : Nat) : List Byte :=
  u16 su.rolls.length ++
  ([RollState.conditioning, .ready, .reserved, .carried, .standby, .running, .butt, .spent].map
    (fun st => u16 (su.countIn st))).flatten ++
  u8 su.lanes.length ++ u16 su.clearTime ++
  listField (fun r : LaneRec =>
    u8 r.depth ++ r.motion.field tick ++ flag r.blocked ++ flag r.suspect ++ u8 r.list.length ++
    optField Tag.field r.lastTag) su.lanes ++
  (su.bays.toList.map (fun b => b.state.field ++ flag b.suspect ++ optField Tag.field b.lastTag)).flatten

/-- STORE QUERY, the fetch of the STORE source (R30, R179). -/
def reqStoreQuery (s : State) : State × Reply :=
  (s.fetch srcStore, ⟨.ok, s.su.summaryField s.clk.tick ++ s.noticeField srcStore⟩)

/-! ## Requests on bays and doors (R33, R34, R38) -/

/-- Whether a vehicle holds the lock of the bay's node, as the Lock Unit answers from the lock table (R33, R108). -/
def State.bayNodeHeld (s : State) (b : Fin 8) : Bool :=
  (List.finRange 128).any (fun n =>
    (s.lu.nodes[n].map (·.kind)) == some (NodeKind.bay b.val) && s.lu.nodeLocks[n].isSome)

/-- The roll that occupies a bay. -/
def BayRec.roll? (b : BayRec) : Option Nat :=
  match b.state with
  | .occupied n => some n
  | _ => none

/-- SUSPECT is cleared and the last read tag becomes absent (R33); a flag that was set is a retry cause (R24). -/
def State.trustBay (s : State) (b : Fin 8) : State :=
  let was := s.su.bays[b].suspect
  let s1 := s.setStore (s.su.setBay b { s.su.bays[b] with suspect := false, lastTag := none })
  if was then s1.post .fpRetry else s1

/-- The bay is emptied: its roll becomes SPENT (R33). The bay becomes FREE and that is a retry cause (R93), also in between,
when BAY SET ROLL displaces the roll and another enters at once (DESIGN CHOICE, log 43). -/
def State.emptyBay (s : State) (b : Fin 8) : State :=
  match s.su.bays[b].roll? with
  | some n =>
    let s1 := s.leaveOut n
    (s1.setStore (s1.su.setBay b { s1.su.bays[b] with state := .free })).post .fpRetry
  | none => s

/-- Roll `x` leaves its place and enters the bay with state, mark and reservation kept (R33). A freed bay and a SUSPECT
place left are retry causes (R93). -/
def State.enterBay (s : State) (b : Fin 8) (x : Nat) : State :=
  let freed := s.su.anyInBay [x] || s.su.anySuspect [x]
  let su1 := s.su.leavePlace x
  let s2 := s.setStore ((su1.setBay b { su1.bays[b] with state := .occupied x }).modRoll x (fun r => { r with loc := .bay b }))
  if freed then s2.post .fpRetry else s2

/-- The tests of R33 that concern a named roll (4 to 7), and test 1 on ROLL(0). -/
def State.contentTest (s : State) : BayContent → Option Result
  | .roll n => s.su.namedTest none [n]
  | _ => none

/-- The content of a taken BAY SET (R33). -/
def State.setBayContent (s : State) (b : Fin 8) : BayContent → State
  | .keep => s
  | .empty => s.emptyBay b
  | .roll x => if s.su.bays[b].state = .occupied x then s else (s.emptyBay b).enterBay b x

/-- Whether a bay is reserved (R33 test 3). -/
def BayRec.isReserved (b : BayRec) : Bool :=
  match b.state with
  | .reserved _ => true
  | _ => false

/-- BAY SET (R33). -/
def reqBaySet (bay : Nat) (content : Option BayContent) (s : State) : State × Reply :=
  match fin? 8 bay, content with
  | some b, some c =>
    if c = .roll 0 then (s, .code .badFrame)
    else if s.bayNodeHeld b then (s, .code .busy)
    else if s.su.bays[b].isReserved then (s, .code .conflict)
    else match s.contentTest c with
      | some e => (s, .code e)
      | none => ((s.setBayContent b c).trustBay b, .code .ok)
  | _, _ => (s, .code .badFrame)

/-- DOOR CONFIG (R34). When the new values make the door permit the vehicle at the front of its wait list, the Lock Unit is
told at once. -/
def reqDoorConfig (door : Nat) (limit window : Option Nat) (s : State) : State × Reply :=
  match fin? 2 door with
  | none => (s, .code .badFrame)
  | some d =>
    let r := s.su.doors[d]
    let n := rangeField 1 12 r.limit limit
    let w := rangeField 30 1800 r.window window
    let r1 := { r with limit := n.1, window := w.1 }
    let s1 := s.setStore (s.su.setDoor d r1)
    (if !r1.waits.isEmpty && (r1.examine s.clk.hall).room s.clk.hall then s1.post .luExamine else s1,
      ⟨okOr (n.2 || w.2), u8 n.1 ++ u16 w.1⟩)

/-- What DOOR QUERY returns of a door examined at hall time `t` (R38). -/
def DoorRec.field (d : DoorRec) (t : Nat) : List Byte :=
  u8 d.limit ++ u16 d.window ++ listField u32 d.openings ++ optField u32 d.dropped ++
  listField (fun v : Vehicle => u8 v.val) d.waits ++ listField (fun v : Vehicle => u8 v.val) d.passages ++
  flag (!d.passages.isEmpty) ++ flag (d.room t)

/-- DOOR QUERY, the fetch of the door's source (R38, R179): the door is examined at the hall time of the query. -/
def reqDoorQuery (door : Nat) (s : State) : State × Reply :=
  match fin? 2 door with
  | none => (s, .code .badFrame)
  | some d =>
    let r := s.su.doors[d].examine s.clk.hall
    ((s.setStore (s.su.setDoor d r)).fetch (srcDoor d), ⟨.ok, r.field s.clk.hall ++ s.noticeField (srcDoor d)⟩)

/-- RESET(MOTION) at the Store Unit (R18, R31, R34): reservations of RESERVED and CARRIED rolls and of bays are cleared,
door wait lists emptied and their notices cleared. -/
def StoreUnit.resetMotion (su : StoreUnit) : StoreUnit :=
  { su with
    rolls := su.rolls.map (fun r =>
      if r.state = .reserved then r.unreserve else if r.state = .carried then { r with reservation := none } else r)
    bays := su.bays.map (fun b => if b.isReserved then { b with state := .free } else b)
    doors := su.doors.map (fun d => { d with waits := [], full := false }) }

/-! ## Copy charges (R19) -/

/-- Whether a roll is RUNNING on a stand of the press. -/
def RollRec.runsAt (r : RollRec) (p : Press) : Bool :=
  r.state == .running && (match r.loc with
    | .stand st _ => pressOf st == p
    | _ => false)

/-- The charge of one copy to one record (R19). -/
def RollRec.charge (p : Press) (isWaste : Bool) (cause : Option Nat) (r : RollRec) : RollRec :=
  let r1 := if r.runsAt p then
      (if isWaste then { r with waste := satSucc r.waste } else { r with good := satSucc r.good })
    else r
  if cause = some r.num then { r1 with spliceWaste := satSucc r1.spliceWaste } else r1

/-- The Store Unit applies a copy charge (R19, R170). -/
def StoreUnit.chargeCopy (su : StoreUnit) (p : Press) (isWaste : Bool) (cause : Option Nat) : StoreUnit :=
  { su with rolls := su.rolls.map (RollRec.charge p isWaste cause) }

end Sys2Proof.Machine
end

