-- ==== Sys2Proof/Machine/Count.lean ====
section
/-! DEFINITION. The Count Unit (chapter 9): copies, waste runs, splice stamps, web copies and the requests on them. -/

namespace Sys2Proof.Machine

/-! ## Copy pulses and boundaries (R162) -/

/-- Whether an edge of the COPY input is of the kind configured (R162). -/
def CopyEdge.takes : CopyEdge → PinEdge → Bool
  | .rising, .rising => true
  | .falling, .falling => true
  | .both, _ => true
  | _, _ => false

/-- A copy boundary: pending values are taken into force (R162). -/
def CountRec.copyBoundary (r : CountRec) : CountRec :=
  { r with
    pulses := r.pendPulses.getD r.pulses
    edge := r.pendEdge.getD r.edge
    pendPulses := none
    pendEdge := none }

/-! ## Waste runs (R166, R167, R168, R169) -/

/-- A copy is waste by the GATE level and the polarity (R163). -/
def CountRec.isWaste (r : CountRec) (gate : Bool) : Bool :=
  match r.polarity with
  | .wasteHigh => gate
  | .wasteLow => !gate

/-- The open run (R169: only the newest entry can be open). -/
def CountRec.openRun? (r : CountRec) : Option WasteRun :=
  match r.ring.getLast? with
  | some x => if x.isOpen then some x else none
  | none => none

/-- The open run, if any, is closed (R165, R168). -/
def CountRec.closeRun (r : CountRec) : CountRec :=
  { r with ring := r.ring.map (fun x => { x with isOpen := false }) }

/-- A splice is within the window of the copy with gross number `g` (R166). -/
def SpliceEntry.within (e : SpliceEntry) (window g : Nat) : Bool :=
  decide (e.stamp < g) && decide (g - e.stamp ≤ window)

/-- The splice within the window that has the highest stamp, the later of equals (R167). -/
def CountRec.cause? (r : CountRec) (g : Nat) : Option SpliceEntry :=
  (r.splices.filter (·.within r.window g)).foldl
    (fun best e => match best with
      | none => some e
      | some b => if b.stamp ≤ e.stamp then some e else some b) none

/-- The reason and the cause of a run that opens at the copy with gross number `g` (R167). -/
def CountRec.openReason (r : CountRec) (g : Nat) : WasteReason × Option (Stand × Nat) :=
  if r.breakMark then (.brk, none)
  else if r.startupMark then (.startup, none)
  else match r.cause? g with
    | some e => (.splice, some (e.stand, e.roll))
    | none => if r.plateMark then (.plate, none) else (.other, none)

/-- The run number after another, wrapping from 65,535 to 1 (R169). -/
def nextRun (n : Nat) : Nat := if n < 65535 then n + 1 else 1

/-- A run ring with one more entry, the oldest dropped when it held 16 (R169). -/
def pushRun (ring : List WasteRun) (x : WasteRun) : List WasteRun :=
  (if ring.length < Config.runRing then ring else ring.tail) ++ [x]

/-- A waste copy with gross number `g` opens a run (R167, R169). -/
def CountRec.startRun (r : CountRec) (g : Nat) : CountRec :=
  let why := r.openReason g
  { r with
    ring := pushRun r.ring ⟨nextRun r.lastRun, g, 1, why.1, why.2, true⟩
    lastRun := nextRun r.lastRun
    breakMark := if why.1 = .brk then false else r.breakMark
    plateMark := if why.1 = .plate then false else r.plateMark }

/-- A waste copy is added to the open run (R168). -/
def CountRec.extendRun (r : CountRec) : CountRec :=
  { r with ring := r.ring.map (fun x => if x.isOpen then { x with copies := x.copies + 1 } else x) }

/-- The waste-run part of a counted copy (R163 step 2). -/
def CountRec.runStep (r : CountRec) (isWaste : Bool) (g : Nat) : CountRec :=
  if isWaste then (if r.openRun?.isSome then r.extendRun else r.startRun g)
  else { r.closeRun with startupMark := false }

/-! ## Counters (R163, R164) -/

/-- One good copy in a scope. -/
def Scope.addGood (c : Scope) : Scope := { c with gross := c.gross + 1, good := c.good + 1 }

/-- One waste copy of a reason in a scope. -/
def Scope.addWaste (c : Scope) (why : WasteReason) : Scope :=
  let c1 := { c with gross := c.gross + 1, waste := c.waste + 1 }
  match why with
  | .brk => { c1 with brk := c.brk + 1 }
  | .startup => { c1 with startup := c.startup + 1 }
  | .splice => { c1 with splice := c.splice + 1 }
  | .plate => { c1 with plate := c.plate + 1 }
  | .other => { c1 with other := c.other + 1 }

/-- One copy in a scope: `why` is the reason of a waste copy, absent for a good one. -/
def Scope.add (c : Scope) : Option WasteReason → Scope
  | none => c.addGood
  | some why => c.addWaste why

/-- The press is saturated (R164). -/
def CountRec.atLimit (r : CountRec) : Bool :=
  r.totals.gross == Config.maxU32 || r.edition.gross == Config.maxU32

/-- The saturated flag is cleared when no gross is left at the limit (R164). -/
def CountRec.unsaturate (r : CountRec) : CountRec := if r.atLimit then r else { r with saturated := false }

/-- The reason of a copy that the record, after its waste-run step, counts as waste. -/
def CountRec.reasonOf (r : CountRec) (isWaste : Bool) : Option WasteReason :=
  if isWaste then r.openRun?.map (·.reason) else none

/-- Steps 2 and 3 of R163 for a counted copy. -/
def CountRec.countCopy (r : CountRec) (isWaste : Bool) : CountRec :=
  let r1 := r.runStep isWaste (r.totals.gross + 1)
  { r1 with
    totals := r1.totals.add (r1.reasonOf isWaste)
    edition := r1.edition.add (r1.reasonOf isWaste) }

/-- The cause roll that a counted waste copy of a SPLICE run names to the Store Unit (R170). -/
def CountRec.chargeCause (r : CountRec) (isWaste : Bool) : Option Nat :=
  if isWaste then (r.openRun?.bind (·.cause)).map (·.2) else none

/-- The target test of R172. -/
def CountRec.hitsTarget (r : CountRec) : Bool :=
  r.target != 0 && r.edition.good == r.target && !r.targetReached

/-- The allowance test of R172. -/
def CountRec.passesAllowance (r : CountRec) : Bool :=
  r.allowance != 0 && decide (r.allowance < r.edition.waste) && !r.allowancePassed

/-- The edition flags after the tests of R172. -/
def CountRec.editionFlags (r : CountRec) : CountRec :=
  { r with
    targetReached := r.targetReached || r.hitsTarget
    allowancePassed := r.allowancePassed || r.passesAllowance }

/-- A completed copy that is counted (R163): counters, runs, charge and edition tests. -/
def State.countCopy (s : State) (p : Press) (gate : Bool) : State :=
  let w := s.cu[p].isWaste gate
  let r := s.cu[p].countCopy w
  let s1 := (s.setCount p r.editionFlags).setStore (s.su.chargeCopy p w (r.chargeCause w))
  (s1.raiseIf r.hitsTarget (srcPress p) .editionDone).raiseIf r.passesAllowance (srcPress p) .allowanceExceeded

/-- A completed copy that finds the press saturated (R164). -/
def State.refuseCopy (s : State) (p : Press) : State :=
  (s.modCount p (fun r => { r with saturated := true })).raiseIf (!s.cu[p].saturated) (srcPress p) .countSaturated

/-- A copy is complete (R162, R163, R164): the prescaler returns to 0, the copy is counted or refused, and the moment is a
copy boundary. -/
def State.completeCopy (s : State) (p : Press) (gate : Bool) : State :=
  let s1 := s.modCount p (fun r => { r with prescaler := 0 })
  let s2 := if s.cu[p].atLimit then s1.refuseCopy p else s1.countCopy p gate
  s2.modCount p CountRec.copyBoundary

/-- A COPY edge (R162). -/
def State.copyPulse (s : State) (p : Press) (edge : PinEdge) (gate : Bool) : State :=
  if CopyEdge.takes s.cu[p].edge edge then
    if s.cu[p].prescaler + 1 < s.cu[p].pulses then s.modCount p (fun r => { r with prescaler := r.prescaler + 1 })
    else s.completeCopy p gate
  else s

/-! ## Splices, edges and web (R165, R166, R171) -/

/-- The Stand Sequencer hands a splice (R166); `stamp` is absent for a confirmed paste. R166's test alone decides: a stamp from
before a COUNT CLEAR is entered once the new totals gross has reached it, though R174 says that it is not (DEDUCED, log 57). -/
def CountRec.takeSplice (r : CountRec) (st : Stand) (roll : Nat) (stamp : Option Nat) : CountRec :=
  let n := stamp.getD r.totals.gross
  if n ≤ r.totals.gross then { r with splices := r.splices.filter (fun e => e.stand != st) ++ [⟨st, roll, n⟩] } else r

/-- RUN rises at the Count Unit (R165). -/
def CountRec.runRise (r : CountRec) : CountRec := { r.closeRun with startupMark := true }

/-- Web copies of one scope rise by `n`, saturated (R171). -/
def Scope.addWeb (c : Scope) (n : Nat) : Scope := { c with web := satU32 (c.web + n) }

/-- A web advance (R171): whole cut-offs leave the remainder as web copies. -/
def CountRec.web (r : CountRec) (mm : Nat) : CountRec :=
  let n := (r.remainder + mm) / r.cutOff
  { r with
    remainder := (r.remainder + mm) % r.cutOff
    totals := r.totals.addWeb n
    edition := r.edition.addWeb n }

/-- One web copy: the remainder has reached the cut-off (R171). -/
def CountRec.webCopy (r : CountRec) : CountRec :=
  { r with remainder := r.remainder - r.cutOff, totals := r.totals.addWeb 1, edition := r.edition.addWeb 1 }

/-! ## Bytes of replies -/

def CopyEdge.code : CopyEdge → Nat
  | .none => 0 | .rising => 1 | .falling => 2 | .both => 3
def GatePolarity.code : GatePolarity → Nat
  | .wasteHigh => 0 | .wasteLow => 1
def WasteReason.code : WasteReason → Nat
  | .brk => 0 | .startup => 1 | .splice => 2 | .plate => 3 | .other => 4

/-- The nine counters of a scope in the order of R160. -/
def Scope.field (c : Scope) : List Byte :=
  u32 c.gross ++ u32 c.good ++ u32 c.waste ++ u32 c.brk ++ u32 c.startup ++ u32 c.splice ++ u32 c.plate ++ u32 c.other ++
  u32 c.web

/-- The cause of a run, present with SPLICE only (R169). Cause stand and cause roll, one row of R169's table, carry one presence
byte together in the replies to RUNS QUERY and PRESS QUERY (DESIGN CHOICE, log 19: R169 and R187 do not say). -/
def causeField (c : Option (Stand × Nat)) : List Byte := optField (fun x : Stand × Nat => u8 x.1.val ++ u32 x.2) c

/-- A run entry in the order of R169; the state is 0 OPEN, 1 CLOSED. -/
def WasteRun.field (x : WasteRun) : List Byte :=
  u16 x.number ++ u32 x.start ++ u32 x.copies ++ u8 x.reason.code ++ causeField x.cause ++ u8 (if x.isOpen then 0 else 1)

/-- The open run as PRESS QUERY carries it (R175). -/
def WasteRun.openField (x : WasteRun) : List Byte :=
  u16 x.number ++ u32 x.start ++ u32 x.copies ++ u8 x.reason.code ++ causeField x.cause

/-- The counting configuration in force and pending (R161); each of the two values that can be pending is followed by its pending
one with a presence byte of its own (DEDUCED, log 19). -/
def CountRec.configField (r : CountRec) : List Byte :=
  u16 r.cutOff ++ u8 r.pulses ++ optField u8 r.pendPulses ++ u8 (CopyEdge.code r.edge) ++
  optField (fun e => u8 (CopyEdge.code e)) r.pendEdge ++ u8 (GatePolarity.code r.polarity) ++ u16 r.window

/-- What PRESS QUERY carries of the count record (R175). The prescaler takes a byte (DEDUCED, log 19). -/
def CountRec.field (r : CountRec) : List Byte :=
  r.configField ++ u8 r.prescaler ++ r.totals.field ++ r.edition.field ++ u32 r.remainder ++ flag r.breakMark ++
  flag r.startupMark ++ flag r.plateMark ++
  listField (fun e : SpliceEntry => u8 e.stand.val ++ u32 e.roll ++ u32 e.stamp) r.splices ++
  optField WasteRun.openField r.openRun? ++ u32 r.target ++ u32 r.allowance ++ flag r.targetReached ++
  flag r.allowancePassed ++ flag r.saturated

/-! ## Requests (R161, R172, R173, R174, R175) -/

/-- Enumerated fields of a PRESS CONFIG that name an unknown value (R161). -/
def pressCfgBad (c : PressCfgArg) : Bool := c.copyEdge == some none || c.polarity == some none

/-- Whether a numeric field of a PRESS CONFIG is set to its limit (R42, R161). -/
def pressCfgClamped (c : PressCfgArg) : Bool :=
  c.scale.any (fun n => clamp 500 4000 n != n) || c.cutOff.any (fun n => clamp 400 700 n != n) ||
    c.pulses.any (fun n => clamp 1 4 n != n) || c.window.any (fun n => clamp 0 2000 n != n)

/-- The count record after a PRESS CONFIG, before a copy boundary that the request is (R161). -/
def CountRec.configure (r : CountRec) (c : PressCfgArg) : CountRec :=
  { r with
    cutOff := (c.cutOff.map (clamp 400 700)).getD r.cutOff
    pendPulses := (c.pulses.map (clamp 1 4)).orElse (fun _ => r.pendPulses)
    pendEdge := c.copyEdge.join.orElse (fun _ => r.pendEdge)
    polarity := c.polarity.join.getD r.polarity
    window := (c.window.map (clamp 0 2000)).getD r.window }

/-- The count record after a PRESS CONFIG (R161, R162): a value made pending with the prescaler at 0 acts at once. -/
def CountRec.config (r : CountRec) (c : PressCfgArg) : CountRec :=
  if r.prescaler = 0 ∧ (c.pulses.isSome ∨ c.copyEdge.isSome) then (r.configure c).copyBoundary else r.configure c

/-- PRESS CONFIG (R42, R161, R162). -/
def reqPressConfig (press : Nat) (c : PressCfgArg) (s : State) : State × Reply :=
  match fin? 4 press with
  | none => (s, .code .badFrame)
  | some p =>
    if pressCfgBad c then (s, .code .badFrame)
    else
      let pj := { s.pju.press[p] with pendScale := (c.scale.map (clamp 500 4000)).orElse (fun _ => s.pju.press[p].pendScale) }
      let r := s.cu[p].config c
      ((s.setPressProj p pj).setCount p r,
        ⟨okOr (pressCfgClamped c), u16 pj.scale ++ optField u16 pj.pendScale ++ r.configField⟩)

/-- The count record after EDITION (R172). -/
def CountRec.newEdition (r : CountRec) (target allowance : Nat) : CountRec :=
  { r with
    edition := Scope.zero, target := target, allowance := allowance, targetReached := false
    allowancePassed := false }.unsaturate

/-- EDITION (R172). -/
def reqEdition (press target allowance : Nat) (s : State) : State × Reply :=
  match fin? 4 press with
  | none => (s, .code .badFrame)
  | some p =>
    (s.modCount p (fun r => r.newEdition (satU32 target) (satU32 allowance)),
      ⟨okOr (satU32 target != target || satU32 allowance != allowance), s.cu[p].totals.field⟩)

/-- PLATE (R173). -/
def reqPlate (press : Nat) (action : Option PlateAction) (s : State) : State × Reply :=
  match fin? 4 press, action with
  | some p, some a =>
    (s.modCount p (fun r => { r with plateMark := a == .set }), ⟨.ok, flag (a == .set)⟩)
  | _, _ => (s, .code .badFrame)

/-- The count record after COUNT CLEAR (R174). -/
def CountRec.clear (r : CountRec) : CountRec :=
  { r with
    totals := Scope.zero, edition := Scope.zero, ring := [], splices := [], targetReached := false
    allowancePassed := false, saturated := false }

/-- COUNT CLEAR (R174); the reply carries the totals as they stood. -/
def reqCountClear (press : Nat) (s : State) : State × Reply :=
  match fin? 4 press with
  | none => (s, .code .badFrame)
  | some p => (s.modCount p CountRec.clear, ⟨.ok, s.cu[p].totals.field⟩)

/-- RUNS QUERY (R175). -/
def reqRunsQuery (press : Nat) (s : State) : State × Reply :=
  match fin? 4 press with
  | none => (s, .code .badFrame)
  | some p => (s, ⟨.ok, listField WasteRun.field s.cu[p].ring ++ u16 s.cu[p].lastRun⟩)

end Sys2Proof.Machine
end

