-- ==== Sys2Proof/Machine/Projection.lean ====
section
/-! DEFINITION. The Projection Unit's arithmetic (chapter 3): web position and speed, circumference ring, remaining length,
time to splice, delivery deadline and standby match. What the measurements set off at the Stand Sequencer is in Stand.lean. -/

namespace Sys2Proof.Machine

/-! ## Web position and speed (R40, R41) -/

/-- Whole millimetres that a tick's counts advance the web (R40). -/
def PressProj.advance (r : PressProj) (counts : Nat) : Nat := (counts * 1000 + r.carry) / r.scale

/-- The press record after a tick's counts (R40). -/
def PressProj.convert (r : PressProj) (counts : Nat) : PressProj :=
  { r with
    carry := (counts * 1000 + r.carry) % r.scale
    position := (r.position + r.advance counts) % 4294967296
    bucket := r.bucket + r.advance counts }

/-- The ten completed buckets after a boundary (R41). -/
def PressProj.nextBuckets (r : PressProj) : List Nat := r.buckets.tail ++ [r.bucket]

/-- The press record after a bucket boundary (R41, R42): speed from the ten buckets, then a pending K is taken into force. -/
def PressProj.boundary (r : PressProj) : PressProj :=
  { r with
    buckets := r.nextBuckets
    bucket := 0
    speed := min 20000 r.nextBuckets.sum
    scale := r.pendScale.getD r.scale
    carry := if r.pendScale.isSome then 0 else r.carry
    pendScale := none }

/-! ## Lengths (R49, R54) -/

/-- Core circumference in mm of a core diameter in mm (R49). -/
def coreCirc (core : Nat) : Nat := core * 355 / 113

/-- Length in mm wound between the core and a circumference, at a caliper in µm (R49). A circumference below the core's
gives 0. -/
def woundLength (c core caliper : Nat) : Nat :=
  (c * c - coreCirc core * coreCirc core) * Config.piDen / (Config.piNum * caliper)

/-- The length of a roll measured at circumference `c`, bounded by its label length (R49, R57). -/
def RollRec.lengthAt (r : RollRec) (c : Nat) : Nat := min (r.label * 1000) (woundLength c r.core r.caliper)

/-- The circumference a roll of the recorded length would show (R54). -/
def RollRec.expectedCirc (r : RollRec) : Nat :=
  isqrt (coreCirc r.core * coreCirc r.core + r.remaining * Config.piNum * r.caliper / Config.piDen)

/-- A stripped length: kept when present, else the metres removed since the length held before (R16). -/
def RollRec.strippedBy (r : RollRec) (len : Nat) : Option Nat :=
  some (r.stripped.getD ((r.remaining - len) / 1000))

/-- The record after an accepted running measurement at mean `c` (R49). -/
def RollRec.measuredAt (c : Nat) (r : RollRec) : RollRec :=
  { r with stripped := r.strippedBy (r.lengthAt c), remaining := r.lengthAt c, measured := true }

/-- The standby roll's record after a match at `w` (R57). -/
def RollRec.matchedAt (w : Nat) (r : RollRec) : RollRec :=
  { r with stripped := r.strippedBy (r.lengthAt w), remaining := r.lengthAt w }

/-- Dead reckoning of one advance (R50). -/
def RollRec.fed (mm : Nat) (r : RollRec) : RollRec := { r with remaining := r.remaining - mm }

/-! ## Ring and measurement (R45, R46) -/

/-- The mean c̄ of a circumference ring (R43); absent for an empty ring. -/
def StandProj.mean? (r : StandProj) : Option Nat :=
  if r.ring.isEmpty then none else some (r.ring.sum / r.ring.length)

/-- Distance of two lengths. -/
def gap (a b : Nat) : Nat := max a b - min a b

/-- Whether measurement `m` is accepted against the ring (R46). -/
def StandProj.accepts (r : StandProj) (m : Nat) : Bool :=
  match r.mean? with
  | none => true
  | some c => decide (gap m c * 1000 ≤ 20 * c)

/-- The ring with `m` appended, the oldest dropped beyond four (R46). -/
def pushRing (ring : List Nat) (m : Nat) : List Nat :=
  if ring.length < Config.circRing then ring ++ [m] else ring.tail ++ [m]

/-- What a measurement did to the record (R46). -/
inductive Measured
  | accepted | rejected | ringReset
  deriving DecidableEq, Repr

/-- A measurement tested against the ring (R46). -/
def StandProj.measure (r : StandProj) (m : Nat) : StandProj × Measured :=
  if r.accepts m then ({ r with ring := pushRing r.ring m, rejects := 0 }, .accepted)
  else if r.rejects < 2 then ({ r with rejects := r.rejects + 1 }, .rejected)
  else ({ r with ring := [m], rejects := 0 }, .ringReset)

/-- The record at a running index pulse before the pending reserves are taken (R45, R47): the phase is COUNTING, the
period and the fault distance restart and the index fault is cleared. -/
def StandProj.turn (r : StandProj) : StandProj :=
  { r with runPhase := .counting, runPeriod := 0, faultDist := 0, indexFault := false }

/-- Pending reserves are taken into force (R51). -/
def StandProj.latch (r : StandProj) : StandProj := { r with force := r.pend.getD r.force, pend := none }

/-- The period that a running index pulse ends, when it is measured (R45). A period of 0 mm is no measurement (log 12). -/
def StandProj.period? (r : StandProj) : Option Nat :=
  if r.runPhase = .counting ∧ 1 ≤ r.runPeriod ∧ r.runPeriod ≤ 65535 then some r.runPeriod else none

/-- The record at a change of the arms' roles that changes the running arm (R48). -/
def StandProj.newRoles (r : StandProj) : StandProj :=
  { r with ring := [], rejects := 0, indexFault := false, runPhase := .discard, runPeriod := 0, faultDist := 0 }

/-- The record at STAND RESOLVE with PASTED_NO (R48). -/
def StandProj.resolvedNo (r : StandProj) : StandProj :=
  { r with indexFault := false, runPhase := .discard, runPeriod := 0, faultDist := 0 }

/-- New reserves handed by the Stand Sequencer (R51): pending with a running arm, in force at once without. -/
def StandProj.handReserves (r : StandProj) (running : Bool) (v : Reserves) : StandProj :=
  if running then { r with pend := some v } else { r with force := v, pend := none }

/-! ## Advances (R44, R47) -/

/-- The fault distance reaches 5,000 mm with this advance (R47): counted while RUN is high, with a running arm, no index
fault and no stand FAULT. -/
def StandProj.faultsAt (r : StandProj) (counts : Bool) (mm : Nat) : Bool :=
  counts && !r.indexFault && decide (5000 ≤ r.faultDist + mm)

/-- The stand record after an advance (R44, R47): `running` and `accel` say which periods lengthen, `counts` whether the
fault distance counts. -/
def StandProj.advance (r : StandProj) (running accel counts : Bool) (mm : Nat) : StandProj :=
  { r with
    runPeriod := if running then r.runPeriod + mm else r.runPeriod
    sbPeriod := if accel then r.sbPeriod + mm else r.sbPeriod
    faultDist := if counts && !r.indexFault then min 5000 (r.faultDist + mm) else r.faultDist
    indexFault := r.indexFault || r.faultsAt counts mm
    runPhase := if r.faultsAt counts mm then .discard else r.runPhase }

/-! ## Time to splice and deadline (R52, R53) -/

/-- Time to splice from remaining length, reserve in metres and speed (R52). -/
def timeToSplice (len reserve speed : Nat) : Nat :=
  if speed = 0 then 65535 else min 65535 ((len - reserve * 1000) / speed)

/-- Delivery deadline from hall time, T, A and P (R53). -/
def deliveryDeadline (now time lead prep : Nat) : Nat := satU32 (now + (time - (lead + prep)))

/-! ## Standby match (R54, R55, R56) -/

/-- The record at entry to ACCELERATING (R54). -/
def StandProj.startStandby (r : StandProj) (expected : Option Nat) : StandProj :=
  { r with expected := expected, sbPhase := .discard, sbPeriod := 0, prevW := none, lastW := none }

/-- Results of a standby test (R56). -/
inductive MatchResult
  | nothing | matched | mismatched
  deriving DecidableEq, Repr

/-- The test of a new `w` against the previous one (R56). -/
def matchTest (prev : Option Nat) (w window expected : Nat) : MatchResult :=
  match prev with
  | none => .nothing
  | some p =>
    if gap w p * 1000 ≤ window * w then
      (if w ≤ expected * (1000 + window) / 1000 then .matched else .mismatched)
    else .nothing

/-- The record and the result at a standby index pulse (R55). -/
def StandProj.standbyPulse (r : StandProj) (window : Nat) : StandProj × MatchResult :=
  if r.sbPhase = .discard then ({ r with sbPhase := .counting, sbPeriod := 0 }, .nothing)
  else if 65535 < r.sbPeriod then ({ r with prevW := none, sbPeriod := 0 }, .nothing)
  else
    let res := matchTest r.prevW r.sbPeriod window (r.expected.getD 0)
    ({ r with
        lastW := some r.sbPeriod
        prevW := if res = .nothing then some r.sbPeriod else r.prevW
        sbPeriod := 0 }, res)

end Sys2Proof.Machine
end

