-- ==== Sys2Proof/Machine/Stand.lean ====
section
/-! DEFINITION. The Stand Sequencer (chapter 4) with the Projection Unit's events at the stands (chapter 3): the splice
sequence, placements, web advances, index pulses, bucket boundaries, and the stand requests but STAND QUERY. -/

namespace Sys2Proof.Machine

/-! ## The stand record -/

/-- The running roll (R62). -/
def StandRec.runningRoll? (r : StandRec) : Option Nat := r.running.bind r.armRoll

/-- The roll on the standby arm, STANDBY or BUTT (R62). -/
def StandRec.standbyRoll? (r : StandRec) : Option Nat := r.armRoll r.standbyArm

/-- Write the roll of an arm. -/
def StandRec.setArm (r : StandRec) : Arm → Option Nat → StandRec
  | .a, n => { r with armA := n }
  | .b, n => { r with armB := n }

/-- The facts the Stand Sequencer hands the Feed Planner (R84). -/
def State.facts (s : State) (st : Stand) : StandFacts :=
  let r := s.ssq[st]
  { present := r.present, state := r.state, auto := r.auto, assignment := r.assignment, standby := r.standbyRoll?
    standbyReady := s.standbyHolds st .standby, loading := r.loading, prepStart := r.prepStart }

/-- A change of the stand is handed to the Feed Planner (R84). -/
def State.handStand (s : State) (st : Stand) : State := s.post (.fpStand st (s.facts st) false false)

/-- A request that has changed the stand record `old` hands the change to the Feed Planner (R75). -/
def State.handChange (s : State) (st : Stand) (old : StandRec) : State :=
  if s.ssq[st] = old then s else s.handStand st

/-- Remaining length of the running roll as last written (R70). -/
def State.runningLength (s : State) (st : Stand) : Nat :=
  ((s.ssq[st].runningRoll?.bind s.roll?).map (·.remaining)).getD 0

/-- The press RUN input of the stand's press (R63). -/
def State.runHigh (s : State) (st : Stand) : Bool := s.pins[pressOf st].run

/-- The sequence timer started with a purpose and a limit in ms (R61). -/
def State.timerFor (s : State) (p : TimerPurpose) (ms : Nat) : Option (TimerPurpose × Nat) := some (p, s.clk.tick + ms)

/-! ## Time to splice (R52, R53) -/

/-- T and the delivery deadline of a stand with a running roll are computed and handed to the Feed Planner. -/
def State.timeStand (s : State) (st : Stand) : State :=
  if s.ssq[st].running.isSome then
    let f := s.pju.stand[st].force
    let t := timeToSplice (s.runningLength st) f.reserve s.pju.press[pressOf st].speed
    let d := deliveryDeadline s.clk.hall t f.lead s.ssq[st].cfg.prepTime
    (s.modProj st (fun r => { r with time := some t, deadline := some d })).post (.fpTime st t d)
  else s

/-! ## Acceleration, match and paste (R68, R69, R70, R74) -/

/-- The expected circumference of the standby roll (R54). -/
def State.standbyCirc (s : State) (st : Stand) : Option Nat :=
  (s.ssq[st].standbyRoll?.bind s.roll?).map RollRec.expectedCirc

/-- Entry to ACCELERATING (R68, R54). -/
def State.startAccel (s : State) (st : Stand) : State :=
  ((s.modStand st (fun r => { r with
      state := .accelerating, timer := s.timerFor .accel (r.cfg.accelLimit * 1000) })).modProj st
    (·.startStandby (s.standbyCirc st))).handStand st

/-- The four conditions of the acceleration test at an ARMED stand (R68). -/
def State.accelReady (s : State) (st : Stand) : Bool :=
  s.ssq[st].state == .armed && s.ssq[st].auto && s.runHigh st && s.ssq[st].running.isSome &&
    (match s.pju.stand[st].time with
     | some t => decide (t ≤ s.pju.stand[st].force.lead)
     | none => false)

/-- The acceleration test (R68). -/
def State.accelTest (s : State) (st : Stand) : State := if s.accelReady st then s.startAccel st else s

/-- The record back in ARMED from ACCELERATING or MATCHED (R69, R70): timer absent, manual splice cleared. -/
def StandRec.rearm (r : StandRec) : StandRec := { r with state := .armed, timer := none, manual := false }

/-- Return to ARMED with AUTO kept and no reason (RUN falls; R69, R70). -/
def State.fallBack (s : State) (st : Stand) : State := (s.modStand st StandRec.rearm).handStand st

/-- A splice fault in ACCELERATING (R69): back to ARMED with AUTO cleared. -/
def State.accelFault (s : State) (st : Stand) (why : SpliceFault) : State :=
  (((s.modStand st (fun r => { r.rearm with auto := false, lastFault := some why })).raise (srcStand st) .spliceFault).raiseIf
    s.ssq[st].watch.fall (srcStand st) .armedFall).handStand st

/-- The stand states whose run-out raises ARMED_FALL (R74, R82). -/
def StandState.fallsAtRunout : StandState → Bool
  | .armed | .accelerating | .matched | .fault => true
  | _ => false

/-- The record in RUNOUT (R74): a timer of purpose ACCEL is gone, an EJECT timer runs on. -/
def StandRec.runOut (r : StandRec) : StandRec :=
  { r with
    state := .runout
    timer := match r.timer with
      | some (.eject, e) => some (.eject, e)
      | _ => none
    manual := false
    fault := none }

/-- Entry to RUNOUT (R74). -/
def State.enterRunout (s : State) (st : Stand) : State :=
  (((s.modStand st StandRec.runOut).raise (srcStand st) .runout).raiseIf
    (s.ssq[st].state.fallsAtRunout && s.ssq[st].watch.fall) (srcStand st) .armedFall).handStand st

/-- Entry to PASTING (R70). -/
def State.startPaste (s : State) (st : Stand) : State :=
  (s.modStand st (fun r => { r with state := .pasting, timer := s.timerFor .paste r.cfg.pasteCycle })).handStand st

/-- Whether the remaining length is at or below Rmin in force (R74). -/
def State.atMinimum (s : State) (st : Stand) : Bool :=
  decide (s.runningLength st ≤ s.pju.stand[st].force.minReserve * 1000)

/-- The paste test of a MATCHED stand (R70); `manual` says that a manual splice is ordered. -/
def State.pasteTest (s : State) (st : Stand) (manual : Bool) : State :=
  if s.atMinimum st then s.enterRunout st
  else if manual || decide (s.runningLength st ≤ s.pju.stand[st].force.reserve * 1000) then s.startPaste st
  else s

/-- The Stand Sequencer is handed a remaining length of the running roll (R70, R74). -/
def State.lengthWritten (s : State) (st : Stand) : State :=
  match s.ssq[st].state with
  | .matched => s.pasteTest st s.ssq[st].manual
  | .single | .butt | .loading | .preparing | .armed | .accelerating | .fault =>
    if s.atMinimum st then s.enterRunout st else s
  | .empty | .pasting | .runout => s

/-- The Stand Sequencer takes a match at `w` (R57, R69): the standby roll is measured, the timer is gone and manual splice is
cleared; then the paste test is made, with the manual splice that was ordered, so that the stand "pastes at the match" (R77;
log 13). -/
def State.takeMatch (s : State) (st : Stand) (w : Nat) : State :=
  let s1 := match s.ssq[st].standbyRoll? with
    | some n => s.modRoll n (RollRec.matchedAt w)
    | none => s
  ((s1.modStand st (fun r => { r with state := .matched, timer := none, manual := false })).handStand st).pasteTest st
    s.ssq[st].manual

/-! ## The splice (R71, R72, R73) -/

/-- A stand's rolls change state: the running roll, if any, becomes BUTT and the standby roll RUNNING (R71, R78). -/
def State.swapRolls (s : State) (st : Stand) (time : Nat) : State :=
  let s1 := match s.ssq[st].runningRoll? with
    | some n => s.modRoll n (·.toButt time)
    | none => s
  match s.ssq[st].standbyRoll? with
  | some n => s1.modRoll n (·.toRunning time)
  | none => s1

/-- The record after a splice (R71): the roles are changed, the eject timer runs, AUTO is cleared when a RESET(MOTION) was
taken in PASTING (R85). -/
def StandRec.spliced (r : StandRec) (timer : Option (TimerPurpose × Nat)) : StandRec :=
  { r with
    running := some r.standbyArm, state := .butt, timer := timer, ejectFault := false, manual := false
    prepStart := none, fault := none, auto := r.auto && !r.autoClear, autoClear := false }

/-- A splice taken with the splice times and the stamp given (R71, R79). -/
def State.splice (s : State) (st : Stand) (time : Nat) (stamp : Option Nat) : State :=
  let s1 := s.swapRolls st time
  let s2 := (s1.modStand st (·.spliced (s.timerFor .eject (s.ssq[st].cfg.ejectLimit * 1000)))).modProj st StandProj.newRoles
  let s3 := (s2.timeStand st).raise (srcStand st) .spliced
  let s4 := match s.ssq[st].standbyRoll? with
    | some n => s3.modCount (pressOf st) (·.takeSplice st n stamp)
    | none => s3
  s4.handStand st

/-- PASTED rises (R63, R71, R72). -/
def State.pastedRise (s : State) (st : Stand) : State :=
  match s.ssq[st].state with
  | .pasting => s.splice st s.clk.hall none
  | .fault => s.modStand st (fun r => { r with fault := r.fault.map (fun f => { f with lateConfirm := true }) })
  | _ => s

/-- The PASTE timer expires (R72). -/
def State.pasteTimeout (s : State) (st : Stand) : State :=
  if s.ssq[st].state = .pasting then
    let s1 := s.modStand st (fun r => { r with
      state := .fault, timer := none, auto := false, autoClear := false, lastFault := some .noConfirm
      fault := some ⟨s.clk.hall, s.cu[pressOf st].totals.gross, false⟩ })
    ((s1.raise (srcStand st) .spliceFault).raiseIf s.ssq[st].watch.fall (srcStand st) .armedFall).handStand st
  else s

/-- The ACCEL timer expires (R69). -/
def State.accelTimeout (s : State) (st : Stand) : State :=
  if s.ssq[st].state = .accelerating then s.accelFault st .accelTimeout else s

/-- The state of a stand whose standby arm has become empty or whose placement has ended (R66, R73). -/
def StandRec.restState (r : StandRec) : StandState :=
  match r.running with
  | some _ => .single
  | none => .empty

/-- BUTT_CLR rises (R63, R73). -/
def State.buttClear (s : State) (st : Stand) : State :=
  if s.standbyHolds st .butt then
    let s1 := match s.ssq[st].standbyRoll? with
      | some n => s.modRoll n RollRec.toSpent
      | none => s
    let s2 := s1.modStand st (fun r => { r.setArm r.standbyArm none with
      timer := none, ejectFault := false, state := if r.state = .runout then .runout else r.restState })
    (s2.post (.fdArmClear st)).handStand st
  else s

/-- The EJECT timer expires (R73). -/
def State.ejectTimeout (s : State) (st : Stand) : State :=
  match s.ssq[st].timer with
  | some (.eject, _) =>
    (s.modStand st (fun r => { r with timer := none, ejectFault := true })).raise (srcStand st) .ejectFault
  | _ => s

/-- PREP rises (R63, R67). -/
def State.prepRise (s : State) (st : Stand) : State :=
  if s.ssq[st].state = .preparing then
    (((s.modStand st (fun r => { r with state := .armed })).raiseIf s.ssq[st].watch.rise (srcStand st) .armedRise).handStand
      st).accelTest st
  else s

/-! ## Placements (R65, R66) -/

/-- Answers to place begin (R65). -/
inductive PlaceAnswer
  | accepted | wait | refused
  deriving DecidableEq, Repr

/-- Place begin by a vehicle (R65). -/
def State.placeBegin (s : State) (st : Stand) (v : Vehicle) : State × PlaceAnswer :=
  let r := s.ssq[st]
  let empty := r.standbyRoll?.isNone
  if !r.present then (s, .refused)
  else if (r.state = .loading ∨ r.state = .runout) ∧ empty ∧ r.loading = some v then (s, .accepted)
  else if (r.state = .empty ∨ r.state = .single) ∧ empty ∧ r.loading = none then
    ((s.modStand st (fun r => { r with state := .loading, loading := some v })).handStand st, .accepted)
  else if r.state = .runout ∧ empty ∧ r.loading = none then
    ((s.modStand st (fun r => { r with loading := some v })).handStand st, .accepted)
  else if (r.state = .butt ∨ r.state = .runout) ∧ s.standbyHolds st .butt then (s, .wait)
  else (s, .refused)

/-- The record once its loading vehicle is gone without a placement (R66). -/
def StandRec.endPlace (r : StandRec) : StandRec :=
  { r with loading := none, state := if r.state = .loading then r.restState else r.state }

/-- PLACED at a stand for roll `n` and vehicle `v` (R66); the flag tells whether it is taken. -/
def State.placedAt (s : State) (st : Stand) (v : Vehicle) (n : Nat) : State × Bool :=
  let r := s.ssq[st]
  if r.loading = some v then
    match s.su.placeStand v st r.standbyArm n with
    | some su =>
      (((s.setStore su).modStand st (fun r => { r.setArm r.standbyArm (some n) with
        prepStart := some s.clk.hall, loading := none, state := if r.state = .loading then .preparing else r.state })).handStand
          st, true)
    | none => ((s.modStand st StandRec.endPlace).handStand st, false)
  else (s, false)

/-- Place ended of a vehicle at a stand (R66). -/
def State.placeEnded (s : State) (st : Stand) (v : Vehicle) : State :=
  if s.ssq[st].loading = some v then (s.modStand st StandRec.endPlace).handStand st else s

/-! ## RESET(MOTION) (R85) -/

/-- The record after RESET(MOTION) (R85). -/
def StandRec.resetMotion (r : StandRec) : StandRec :=
  if !r.present then r
  else if r.state = .pasting then { r with autoClear := true }
  else
    let r1 := r.endPlace
    let r2 := if r.state = .accelerating ∨ r.state = .matched then r1.rearm else r1
    { r2 with auto := false }

/-- RESET(MOTION) at one stand. -/
def State.resetStand (s : State) (st : Stand) : State :=
  (s.modStand st StandRec.resetMotion).handChange st s.ssq[st]

/-! ## Web advances (R40, R44, R47, R50) -/

/-- An index fault at a stand (R47). -/
def State.indexFaultAt (s : State) (st : Stand) : State :=
  (s.modProj st (fun r => { r with faultDist := 5000, indexFault := true, runPhase := .discard })).raise (srcStand st)
    .indexFault

/-- Whether the fault distance counts at a stand, the index fault aside (R47). -/
def State.faultCounts (s : State) (st : Stand) : Bool :=
  s.runHigh st && s.ssq[st].running.isSome && s.ssq[st].state != .fault

/-- An advance handed to a stand (R44, R47, R50). -/
def State.advanceStand (s : State) (mm : Nat) (st : Stand) : State :=
  let r := s.ssq[st]
  if r.present then
    let c := s.faultCounts st
    let s1 := (s.modProj st (·.advance r.running.isSome (r.state == .accelerating) c mm)).raiseIf
      (s.pju.stand[st].faultsAt c mm) (srcStand st) .indexFault
    match r.runningRoll? with
    | some n => (s1.modRoll n (·.fed mm)).lengthWritten st
    | none => s1
  else s

/-- The counts of one tick at a press's encoder (R40, R171). The stands of the press take the advance in ascending order
(DESIGN CHOICE, log 44). -/
def State.webAdvance (s : State) (p : Press) (counts : Nat) : State :=
  if counts = 0 then s
  else
    let mm := s.pju.press[p].advance counts
    let s1 := s.setPressProj p (s.pju.press[p].convert counts)
    if mm = 0 then s1
    else ((standsOf p).foldl (fun s st => s.advanceStand mm st) s1).modCount p (·.web mm)

/-- A bucket boundary at one press (R41, R42). Its stands go in ascending order, each with its acceleration test before the
next one's T (DESIGN CHOICE, log 44). -/
def State.bucketPress (s : State) (p : Press) : State :=
  (standsOf p).foldl (fun s st => (s.timeStand st).accelTest st) (s.setPressProj p s.pju.press[p].boundary)

/-- A bucket boundary, at the same tick for all four presses (R39, R41), taken in ascending order (DESIGN CHOICE, log 44). -/
def State.bucketBoundary (s : State) : State := (List.finRange 4).foldl State.bucketPress s

/-! ## Index pulses (R44, R45, R46, R49, R51, R55) -/

/-- The running roll's remaining length is written from c̄ (R49) and handed to the Stand Sequencer. -/
def State.writeLength (s : State) (st : Stand) : State :=
  match s.ssq[st].runningRoll?, s.pju.stand[st].mean? with
  | some n, some c => (s.modRoll n (RollRec.measuredAt c)).lengthWritten st
  | _, _ => s

/-- A running measurement is tested (R46). -/
def State.measureAt (s : State) (st : Stand) (m : Nat) : State :=
  let res := s.pju.stand[st].measure m
  let s1 := s.setProj st res.1
  match res.2 with
  | .accepted => s1.writeLength st
  | .rejected => s1
  | .ringReset => (s1.raise (srcStand st) .measureReset).writeLength st

/-- The third rejection in a row: the ring is rebuilt from `m` (R46). -/
def State.ringReset (s : State) (st : Stand) (m : Nat) : State :=
  ((s.modProj st (fun r => { r with ring := [m], rejects := 0 })).raise (srcStand st) .measureReset).writeLength st

/-- Pending R, Rmin and A are taken into force at a running index pulse, and the acceleration test is made (R51, R68). -/
def State.latchAt (s : State) (st : Stand) : State :=
  if s.pju.stand[st].pend.isSome then (s.modProj st StandProj.latch).accelTest st else s

/-- A running index pulse (R44, R45, R48). One taken in FAULT leaves a set index fault and the fault distance as they
are: R48 has it only latch the reserves and go to the Stand Sequencer (DEDUCED, log 35, beside R45 and R47). -/
def State.runningPulse (s : State) (st : Stand) : State :=
  let s1 := if s.ssq[st].state = .fault then s
    else
      let s0 := s.modProj st StandProj.turn
      match s.pju.stand[st].period? with
      | some m => s0.measureAt st m
      | none => s0
  (s1.latchAt st).raiseIf s.ssq[st].watch.rev (srcStand st) .watchRev

/-- A standby index pulse in ACCELERATING (R55, R56). -/
def State.standbyPulse (s : State) (st : Stand) : State :=
  let res := s.pju.stand[st].standbyPulse s.ssq[st].cfg.matchWindow
  let s1 := s.setProj st res.1
  match res.2 with
  | .nothing => s1
  | .matched => s1.takeMatch st s.pju.stand[st].sbPeriod
  | .mismatched => s1.accelFault st .speedMismatch

/-- An index pulse of an arm (R44). -/
def State.indexPulse (s : State) (st : Stand) (arm : Arm) : State :=
  let r := s.ssq[st]
  if !r.present then s
  else if r.running = some arm then s.runningPulse st
  else if r.running.isSome ∧ r.state = .accelerating then s.standbyPulse st
  else s

/-! ## Press RUN edges at the stands (R63, R165) -/

/-- RUN rises at a press; its stands make their tests in ascending order (DESIGN CHOICE, log 44). -/
def State.runRise (s : State) (p : Press) : State :=
  (standsOf p).foldl State.accelTest ((s.setPins p { s.pins[p] with run := true }).modCount p CountRec.runRise)

/-- RUN falls at one stand (R69, R70). -/
def State.runFallAt (s : State) (st : Stand) : State :=
  if s.ssq[st].state = .accelerating ∨ s.ssq[st].state = .matched then s.fallBack st else s

/-- RUN falls at a press, at its stands in ascending order (DESIGN CHOICE, log 44). -/
def State.runFall (s : State) (p : Press) : State :=
  (standsOf p).foldl State.runFallAt ((s.setPins p { s.pins[p] with run := false }).modCount p CountRec.closeRun)

/-! ## Bytes of replies -/

def StandState.code : StandState → Nat
  | .empty => 0 | .single => 1 | .butt => 2 | .loading => 3 | .preparing => 4 | .armed => 5 | .accelerating => 6
  | .matched => 7 | .pasting => 8 | .runout => 9 | .fault => 10

/-- Configured values in the order of R59. -/
def StandCfg.field (c : StandCfg) : List Byte :=
  u16 c.reserve ++ u16 c.minReserve ++ u16 c.accelLead ++ u16 c.accelLimit ++ u16 c.prepTime ++ u8 c.matchWindow ++
  u32 c.pasteCycle ++ u16 c.ejectLimit

/-- The watch set as a set of R184. -/
def WatchSet.bits (w : WatchSet) : Nat := (if w.rise then 1 else 0) + (if w.fall then 2 else 0) + (if w.rev then 4 else 0)

/-- The reply of a stand request (R75): result, stand state and AUTO after the request, then what the rule adds. -/
def State.standReply (s : State) (st : Stand) (res : Result) (more : List Byte) : State × Reply :=
  (s, ⟨res, u8 s.ssq[st].state.code ++ flag s.ssq[st].auto ++ more⟩)

/-! ## Requests at a stand (4.1, 4.5) -/

/-- The common refusals of R75 for a request other than STAND CONFIG, STAND WATCH and STAND QUERY, then its own rule. -/
def standRequest (stand : Nat) (s : State) (own : Stand → State × Reply) : State × Reply :=
  match fin? 24 stand with
  | none => (s, .code .badFrame)
  | some st =>
    if !s.ssq[st].present then s.standReply st .badState []
    else if s.ssq[st].state = .pasting then s.standReply st .busy []
    else own st

/-- The configuration after the named fields (R59), and whether a field was set to its limit. -/
def StandCfg.apply (c : StandCfg) (x : StandCfgArg) : StandCfg × Bool :=
  let r := rangeField 20 600 c.reserve x.reserve
  let rm := (x.minReserve.getD c.minReserve)
  let rm1 := clamp 5 (r.1 - 5) rm
  let al := rangeField 10 120 c.accelLead x.accelLead
  let lim := rangeField 5 60 c.accelLimit x.accelLimit
  let p := rangeField 30 900 c.prepTime x.prepTime
  let mw := rangeField 1 50 c.matchWindow x.matchWindow
  let pc := rangeField 200 3000 c.pasteCycle x.pasteCycle
  let ej := rangeField 5 120 c.ejectLimit x.ejectLimit
  (⟨r.1, rm1, al.1, lim.1, p.1, mw.1, pc.1, ej.1⟩, r.2 || rm1 != rm || al.2 || lim.2 || p.2 || mw.2 || pc.2 || ej.2)

/-- The reserves a configuration hands the Projection Unit (R59). -/
def StandCfg.reserves (c : StandCfg) : Reserves := ⟨c.reserve, c.minReserve, c.accelLead⟩

/-- A stand is made present with the fields of the request (R60, R43). -/
def State.makePresent (s : State) (st : Stand) (cfg : StandCfg) : State :=
  let s1 := (s.setStand st { StandRec.reset with present := true, cfg := cfg }).setProj st
    { StandProj.reset with force := cfg.reserves }
  s1.post (.fpStand st (s1.facts st) false true)

/-- A stand is made absent (R60): nothing is handed to the Projection Unit. Its projection record, with R, Rmin and A in force and
pending, stays until it is made present again (DEDUCED, log 36, beside R59 and R83). -/
def State.makeAbsent (s : State) (st : Stand) : State :=
  let s1 := s.setStand st StandRec.reset
  s1.post (.fpStand st (s1.facts st) false true)

/-- The fields of a request are applied to a present stand (R59, R51). -/
def State.applyConfig (s : State) (st : Stand) (cfg : StandCfg) : State :=
  let old := s.ssq[st]
  let s1 := s.modStand st (fun r => { r with cfg := cfg })
  let s2 := if cfg.reserves = old.cfg.reserves then s1
    else s1.modProj st (·.handReserves old.running.isSome cfg.reserves)
  s2.handChange st old

/-- STAND CONFIG (R59, R60). Fields that a STAND CONFIG ABSENT names are ignored, in range or not (DEDUCED, log 21). -/
def reqStandConfig (stand : Nat) (presence : Option Presence) (x : StandCfgArg) (s : State) : State × Reply :=
  match fin? 24 stand with
  | none => (s, .code .badFrame)
  | some st =>
    let r := s.ssq[st]
    if r.present = true ∧ r.state = .pasting then s.standReply st .busy []
    else match presence with
      | none => s.standReply st .badFrame []
      | some .present =>
        if r.present then
          let c := r.cfg.apply x
          (s.applyConfig st c.1).standReply st (okOr c.2) c.1.field
        else
          let c := StandCfg.reset.apply x
          (s.makePresent st c.1).standReply st (okOr c.2) c.1.field
      | some .absent =>
        if !r.present then s.standReply st .ok r.cfg.field
        else if r.state = .empty ∧ r.loading = none ∧ s.fp.stands[st].task = none then
          (s.makeAbsent st).standReply st .ok StandCfg.reset.field
        else s.standReply st .locked []

/-- AUTO on at a stand (R76). It is handed to the Feed Planner also when AUTO is on already, so that the creation test, slack and
SLOW are made anew (DESIGN CHOICE, log 59, beside R75 and R84, which hand on a change). -/
def State.autoOn (s : State) (st : Stand) : State :=
  let s1 := s.modStand st (fun r => { r with auto := true })
  (s1.post (.fpStand st (s1.facts st) true false)).accelTest st

/-- AUTO off at a stand (R69, R70, R76). -/
def State.autoOff (s : State) (st : Stand) : State :=
  if s.ssq[st].state = .accelerating ∨ s.ssq[st].state = .matched then
    ((s.modStand st (fun r => { r.rearm with auto := false })).raiseIf s.ssq[st].watch.fall (srcStand st) .armedFall).handStand
      st
  else (s.modStand st (fun r => { r with auto := false })).handChange st s.ssq[st]

/-- STAND AUTO (R76). -/
def reqStandAuto (stand : Nat) (on : Option Bool) (s : State) : State × Reply :=
  standRequest stand s (fun st => match on with
    | none => s.standReply st .badFrame []
    | some true => (s.autoOn st).standReply st .ok []
    | some false => (s.autoOff st).standReply st .ok [])

/-- The conditions of STAND SPLICE (R77). -/
def State.mayForce (s : State) (st : Stand) : Bool :=
  (s.ssq[st].state == .armed || s.ssq[st].state == .accelerating || s.ssq[st].state == .matched) &&
    s.ssq[st].running.isSome && s.runHigh st &&
    decide (s.pju.stand[st].force.minReserve * 1000 ≤ s.runningLength st)

/-- A taken STAND SPLICE (R77). In MATCHED the paste test decides as R70 gives it, so a remaining length of exactly Rmin × 1000
is RUNOUT, though R77 takes the request and names PASTING (DEDUCED, log 45). -/
def State.forceSplice (s : State) (st : Stand) : State :=
  let s1 := s.modStand st (fun r => { r with manual := true })
  match s.ssq[st].state with
  | .armed => s1.startAccel st
  | .matched => s1.pasteTest st true
  | _ => s1.handChange st s.ssq[st]

/-- STAND SPLICE (R77). -/
def reqStandSplice (stand : Nat) (s : State) : State × Reply :=
  standRequest stand s (fun st =>
    if s.mayForce st then (s.forceSplice st).standReply st .ok [] else s.standReply st .badState [])

/-- The conditions of STAND THREAD (R78). -/
def State.mayThread (s : State) (st : Stand) : Bool :=
  s.standbyHolds st .standby &&
    (s.ssq[st].state == .runout ||
      ((s.ssq[st].state == .preparing || s.ssq[st].state == .armed) && s.ssq[st].running.isNone))

/-- The record after a taken STAND THREAD (R78). -/
def StandRec.threaded (r : StandRec) (timer : Option (TimerPurpose × Nat)) : StandRec :=
  { r with
    running := some r.standbyArm, prepStart := none
    state := if r.running.isSome then .butt else .single
    timer := if r.running.isSome then timer else r.timer }

/-- A taken STAND THREAD (R78). -/
def State.thread (s : State) (st : Stand) : State :=
  let s1 := s.swapRolls st s.clk.hall
  let s2 := (s1.modStand st (·.threaded (s.timerFor .eject (s.ssq[st].cfg.ejectLimit * 1000)))).modProj st
    StandProj.newRoles
  (s2.timeStand st).handStand st

/-- STAND THREAD (R78). -/
def reqStandThread (stand : Nat) (s : State) : State × Reply :=
  standRequest stand s (fun st =>
    if s.mayThread st then (s.thread st).standReply st .ok [] else s.standReply st .badState [])

/-- A resolve with PASTED_NO (R79, R48): a return to ARMED, so manual splice is cleared (R77). -/
def State.resolveNo (s : State) (st : Stand) : State :=
  ((s.modStand st (fun r => { r with state := .armed, auto := false, manual := false, fault := none })).modProj st
    StandProj.resolvedNo).handStand st

/-- STAND RESOLVE (R79). An unknown value is BAD_FRAME before the state is tested (DEDUCED, log 20). -/
def reqStandResolve (stand : Nat) (answer : Option Resolve) (s : State) : State × Reply :=
  standRequest stand s (fun st => match answer with
    | none => s.standReply st .badFrame []
    | some ans =>
      match s.ssq[st].state, s.ssq[st].fault with
      | .fault, some f =>
        match ans with
        | .pastedYes => (s.splice st f.entry (some f.copies)).standReply st .ok []
        | .pastedNo => (s.resolveNo st).standReply st .ok []
      | _, _ => s.standReply st .badState [])

/-- The conditions of STAND EJECT (R80). -/
def State.mayEject (s : State) (st : Stand) : Bool :=
  s.standbyHolds st .standby &&
    (s.ssq[st].state == .preparing || s.ssq[st].state == .armed || s.ssq[st].state == .runout)

/-- A taken STAND EJECT (R80). -/
def State.eject (s : State) (st : Stand) : State :=
  let s1 := match s.ssq[st].standbyRoll? with
    | some n => s.modRoll n (·.toButt s.clk.hall)
    | none => s
  (s1.modStand st (fun r => { r with
    timer := s.timerFor .eject (r.cfg.ejectLimit * 1000), prepStart := none
    state := if r.state = .runout then .runout else .butt })).handStand st

/-- STAND EJECT (R80). -/
def reqStandEject (stand : Nat) (s : State) : State × Reply :=
  standRequest stand s (fun st =>
    if s.mayEject st then (s.eject st).standReply st .ok [] else s.standReply st .badState [])

/-- The assignment a STAND ASSIGN names (R81); none when the grade or the width class is unknown. -/
def assignment? : Option (Nat × Option WidthClass) → Option (Option (Nat × WidthClass))
  | none => some none
  | some (g, some w) => if g < 16 then some (some (g, w)) else none
  | some (_, none) => none

/-- STAND ASSIGN (R81). -/
def reqStandAssign (stand : Nat) (x : Option (Nat × Option WidthClass)) (s : State) : State × Reply :=
  standRequest stand s (fun st => match assignment? x with
    | none => s.standReply st .badFrame []
    | some a =>
      ((s.modStand st (fun r => { r with assignment := a })).handChange st s.ssq[st]).standReply st .ok [])

/-- The watch set named by a STAND WATCH, IMMEDIATE left out (R82, R184). -/
def watchOf (set : Nat) : WatchSet := ⟨set.testBit 0, set.testBit 1, set.testBit 2⟩

/-- STAND WATCH (R82). -/
def reqStandWatch (stand set : Nat) (s : State) : State × Reply :=
  match fin? 24 stand with
  | none => (s, .code .badFrame)
  | some st =>
    if !s.ssq[st].present then s.standReply st .badState []
    else if 15 < set then s.standReply st .badFrame []
    else
      let s1 := ((s.modStand st (fun r => { r with watch := watchOf set })).handChange st s.ssq[st]).raiseIf
        (set.testBit 3) (srcStand st) .watchNow
      s1.standReply st .ok (u16 (watchOf set).bits)

end Sys2Proof.Machine
end

