-- ==== Sys2Proof/Machine/Locks.lean ====
section
/-! DEFINITION. The Lock Unit (chapter 6): floor plan, routes, run requests, grants, progress, the wait list and its
head-to-head test, node claims, and the floor plan and fleet-state requests. -/

namespace Sys2Proof.Machine

/-! ## Floor plan -/

/-- The kind of a loaded node (R104). -/
def LockUnit.kind? (lu : LockUnit) (n : Node) : Option NodeKind := lu.nodes[n].map (·.kind)

/-- A holding node: loaded, of a kind other than PLAIN (R104). -/
def LockUnit.holding (lu : LockUnit) (n : Node) : Bool :=
  match lu.kind? n with
  | some .plain => false
  | some _ => true
  | none => false

/-- The other end of a segment from one of its ends (R105). -/
def SegRec.otherEnd (r : SegRec) (n : Node) : Option Node :=
  if r.a = n then some r.b else if r.b = n then some r.a else none

/-- The segments of a route walked from a node: each with its far node, length and attribute (R105, R106). Of a
route whose segments are not loaded or do not chain, the walk ends before the first such segment (DESIGN CHOICE, log 54). -/
def LockUnit.walk (lu : LockUnit) : Node → List Seg → List RunSeg
  | _, [] => []
  | n, g :: gs =>
    match lu.segs[g] with
    | none => []
    | some r =>
      match r.otherEnd n with
      | none => []
      | some far => ⟨g, far, r.length, r.attr⟩ :: lu.walk far gs

/-- The node sequence of a route (R106). -/
def LockUnit.nodeSeq (lu : LockUnit) (r : RouteRec) : List Node := r.origin :: (lu.walk r.origin r.segs).map (·.far)

/-- The sum of the lengths of a route's loaded segments (R106). -/
def LockUnit.sumLength (lu : LockUnit) (r : RouteRec) : Nat :=
  (r.segs.map (fun g => ((lu.segs[g].map (·.length)).getD 0))).sum

/-- The total length a lookup compares: the stored one, or the sum of the segments for a route loaded since the last
successful FLEET START (log 14). -/
def LockUnit.totalOf (lu : LockUnit) (r : RouteRec) : Nat := r.total.getD (lu.sumLength r)

/-- The Lock Unit's answer to a route lookup (R106). -/
structure RouteAnswer where
  number : Route
  nodes : List Node
  total : Nat
  deriving DecidableEq, Repr

/-- A route with an origin and a destination, as an answer; a detour's route passes no other holding node (R106). -/
def LockUnit.routeFor (lu : LockUnit) (o d : Node) (detour : Bool) (k : Route) : Option RouteAnswer :=
  match lu.routes[k] with
  | none => none
  | some r =>
    if r.origin = o ∧ r.dest = d ∧
        (!detour || (lu.nodeSeq r).all (fun n => n == o || n == d || !lu.holding n)) = true then
      some ⟨k, lu.nodeSeq r, lu.totalOf r⟩
    else none

/-- The route lookup: least total length, then lowest number (R106). -/
def LockUnit.lookup (lu : LockUnit) (o d : Node) (detour : Bool) : Option RouteAnswer :=
  firstBy? (fun x y => decide (x.total < y.total)) ((List.finRange 256).filterMap (lu.routeFor o d detour))

/-! ## Locks -/

/-- The holding node whose lock a vehicle holds (R108): for a vehicle standing still, the node it stands at. -/
def LockUnit.nodeOf (lu : LockUnit) (v : Vehicle) : Option Node :=
  (List.finRange 128).find? (fun n => lu.nodeLocks[n] == some v)

/-- Whether a vehicle holds any segment or node lock. -/
def LockUnit.anyLock (lu : LockUnit) : Bool :=
  lu.segLocks.toList.any Option.isSome || lu.nodeLocks.toList.any Option.isSome

/-- Take or free the lock of a segment. -/
def LockUnit.setSegLock (lu : LockUnit) (g : Seg) (v : Option Vehicle) : LockUnit :=
  { lu with segLocks := lu.segLocks.set g v }
/-- Take or free the lock of a node. -/
def LockUnit.setNodeLock (lu : LockUnit) (n : Node) (v : Option Vehicle) : LockUnit :=
  { lu with nodeLocks := lu.nodeLocks.set n v }

/-- Every segment and node lock of a vehicle is released, and its granted run is ended without a RUN_DONE (R119). -/
def LockUnit.releaseAll (lu : LockUnit) (v : Vehicle) : LockUnit :=
  { lu with
    segLocks := lu.segLocks.map (fun x => if x = some v then none else x)
    nodeLocks := lu.nodeLocks.map (fun x => if x = some v then none else x)
    runs := lu.runs.set v none }

/-! ## Runs (R111) -/

/-- The first segments of a walk up to and including the first whose far node is a holding node, and the rest (R111). -/
def LockUnit.cut (lu : LockUnit) : List RunSeg → List RunSeg × List RunSeg
  | [] => ([], [])
  | x :: xs => if lu.holding x.far then ([x], xs) else (x :: (lu.cut xs).1, (lu.cut xs).2)

/-- The walk of a route from a node of its node sequence on. -/
def LockUnit.walkFrom (lu : LockUnit) (r : RouteRec) (n : Node) : Option (List RunSeg) :=
  let w := lu.walk r.origin r.segs
  match (lu.nodeSeq r).idxOf? n with
  | some i => some (w.drop i)
  | none => none

/-- The run a vehicle at node `n` drives next on a route (R111); none when there is none. -/
def LockUnit.cutRun (lu : LockUnit) (r : RouteRec) (n : Node) : Option Run :=
  match lu.walkFrom r n with
  | none => none
  | some w =>
    match (lu.cut w).1.getLast? with
    | some x => some ⟨(lu.cut w).1, n, x.far, ((lu.cut w).2.map (·.length)).sum, false⟩
    | none => none

/-- The lane a run enters: its last segment is LANE(l) driven toward the LANE_HEAD(l) node (R111). -/
def LockUnit.laneOf (lu : LockUnit) (r : Run) : Option Nat :=
  match r.segs.getLast? with
  | some x =>
    match x.attr with
    | .lane l => if lu.kind? r.stop = some (.laneHead l) then some l else none
    | _ => none
  | none => none

/-- The doors a run passes through, in ascending number (R111). -/
def Run.doors (r : Run) : List (Fin 2) :=
  (List.finRange 2).filter (fun d => r.segs.any (fun x => x.attr == .door d.val))

/-! ## The wait list (R113, R115) -/

/-- Examination order: by deadline, then wait start, then vehicle number (R115). -/
def WaitEntry.before (x y : WaitEntry) : Bool :=
  if deadlineLt x.deadline y.deadline then true
  else if deadlineLt y.deadline x.deadline then false
  else if x.since ≠ y.since then decide (x.since < y.since)
  else decide (x.veh ≤ y.veh)

/-- The wait list in examination order. -/
def LockUnit.ordered (lu : LockUnit) : List WaitEntry := sortBy WaitEntry.before lu.waits

/-- The waiting entry of a vehicle. -/
def LockUnit.waiting? (lu : LockUnit) (v : Vehicle) : Option WaitEntry := lu.waits.find? (fun e => e.veh == v)

/-- The entry of a vehicle leaves the wait list. -/
def LockUnit.dropWait (lu : LockUnit) (v : Vehicle) : LockUnit :=
  { lu with waits := lu.waits.filter (fun e => e.veh != v) }

/-- An entry is put in the list, in place of one of the same vehicle. -/
def LockUnit.putWait (lu : LockUnit) (e : WaitEntry) : LockUnit :=
  { lu with waits := (lu.dropWait e.veh).waits ++ [e] }

/-- Change the waiting entry of a vehicle. -/
def LockUnit.modWait (lu : LockUnit) (v : Vehicle) (f : WaitEntry → WaitEntry) : LockUnit :=
  { lu with waits := lu.waits.map (fun e => if e.veh = v then f e else e) }

/-- A waiting request is withdrawn (R113): the entry leaves the list and the vehicle leaves the door wait lists. With no waiting
request nothing changes (R113), a place that a failed detour attempt left in a door's wait list among it (DESIGN CHOICE, log 37). -/
def State.withdrawRun (s : State) (v : Vehicle) : State :=
  if (s.lu.waiting? v).isSome then
    (List.finRange 2).foldl (fun s d => s.leaveDoorWait v d) (s.setLocks (s.lu.dropWait v))
  else s

/-! ## Grant attempts (R112) -/

/-- The first lock of step 1 that is held: a segment of the run, or its end node. -/
def LockUnit.held? (lu : LockUnit) (r : Run) : Option HeldLock :=
  match r.segs.find? (fun x => lu.segLocks[x.seg].isSome) with
  | some x => some (.segment x.seg)
  | none => if lu.nodeLocks[r.stop].isSome then some (.node r.stop) else none

/-- Outcomes of a grant attempt. -/
inductive Attempt
  | granted | laneRefused | held (l : HeldLock)
  deriving DecidableEq, Repr

/-- Step 3: the doors are asked in turn; on WAIT the openings permitted in this attempt are withdrawn. The answer names the
door that waits. -/
def State.askDoors (s : State) (v : Vehicle) (asked : List (Fin 2)) : List (Fin 2) → State × Option (Fin 2)
  | [] => (s, none)
  | d :: ds =>
    match s.askDoor d v with
    | (s1, true) => s1.askDoors v (d :: asked) ds
    | (s1, false) =>
      (asked.foldl (fun s k => s.setStore (s.su.setDoor k (s.su.doors[k].withdraw s.clk.hall v))) s1, some d)

/-- Step 4: the vehicle takes the locks and the run is recorded as granted. The door wait lists are not touched: a vehicle that a
failed detour attempt left in the list of a door that the granted run does not pass stays there, through the run and a later fault
or claim, until it is permitted there, a waiting request of it is withdrawn or answered REFUSED(LANE), or RESET(MOTION) empties the
list (DESIGN CHOICE, log 37: R36 does not say whether it leaves). -/
def LockUnit.grant (lu : LockUnit) (v : Vehicle) (r : Run) : LockUnit :=
  let lu1 := r.segs.foldl (fun l x => l.setSegLock x.seg (some v)) lu
  { (lu1.setNodeLock r.stop (some v)).dropWait v with runs := lu1.runs.set v (some ⟨r, 0, r.start⟩) }

/-- Steps 3 and 4, once the lane of the run (if any) is open for it. On WAIT the lane returns to IDLE; `held` says that it was
OPEN before the attempt, so that its lock frees and the Lock Unit is told (R23). -/
def State.grantDoors (s : State) (e : WaitEntry) (held : Bool) : State × Attempt :=
  match s.askDoors e.veh [] e.doors with
  | (s1, some d) =>
    (match e.lane with
     | some l =>
       let s2 := s1.setStore (s1.su.modLane l (fun r => { r with motion := .idle }))
       if held then s2.post .luExamine else s2
     | none => s1, .held (.door d))
  | (s1, none) => ((s1.setLocks (s1.lu.grant e.veh e.run)).post (.fdGranted e.veh), .granted)

/-- A grant attempt for a waiting entry, all or nothing (R112). On WAIT in step 3 the opening of step 2 returns the lane to
IDLE, also when the lane was OPEN by the same vehicle before the attempt: the rule withdraws the opening answered, without
a case for one that stood before (log 22). -/
def State.tryGrant (s : State) (e : WaitEntry) : State × Attempt :=
  match s.lu.held? e.run with
  | some h => (s, .held h)
  | none =>
    match e.lane with
    | none => s.grantDoors e false
    | some l =>
      match s.su.openLane l e.veh e.purpose with
      | (_, .refused) => (s, .laneRefused)
      | (_, .notFree) => (s, .held (.lane l))
      | (su, .opened) => (s.setStore su).grantDoors e ((s.su.lanes[l]?.map LaneRec.isOpen).getD false)

/-- One entry's turn in an examination (R115). A request answered REFUSED(LANE) leaves the run wait list as R112 says, and its
vehicle leaves the wait lists of the doors with it (DEDUCED, log 22). -/
def State.examineOne (s : State) (e : WaitEntry) : State :=
  match s.tryGrant e with
  | (s1, .granted) => s1
  | (s1, .laneRefused) => (s1.withdrawRun e.veh).post (.fdLaneRefused e.veh)
  | (s1, .held h) => s1.setLocks (s1.lu.modWait e.veh (fun x => { x with held := some h }))

/-! ## Head to head (R116) -/

/-- Two waiting entries are head to head: each run ends at the node the other vehicle holds. -/
def LockUnit.headToHead (lu : LockUnit) (x y : WaitEntry) : Bool :=
  lu.nodeLocks[x.run.stop] == some y.veh && y.run.stop == x.run.start && lu.nodeLocks[x.run.start] == some x.veh

/-- The loser of a pair: the later deadline, then the higher vehicle number. -/
def loserOf (x y : WaitEntry) : WaitEntry :=
  if deadlineLt x.deadline y.deadline then y
  else if deadlineLt y.deadline x.deadline then x
  else if x.veh < y.veh then y else x

/-- The escape detour of a vehicle waiting at a node, when its three conditions hold. -/
def LockUnit.detour? (lu : LockUnit) (n : Node) : Option Run :=
  match lu.nodes[n] with
  | some ⟨.hold, some e⟩ =>
    if lu.nodeLocks[e].isSome then none
    else match lu.lookup n e true with
      | none => none
      | some r =>
        match lu.routes[r.number] with
        | some rec =>
          let w := lu.walk n rec.segs
          if w.isEmpty then none else some ⟨w, n, e, 0, true⟩
        | none => none
  | _ => none

/-- The loser's request is withdrawn and its detour attempted; without a grant the request is restored. A lane that the
detour enters is opened with the purpose of the loser's own request, and a door that answers the attempt WAIT keeps the
vehicle in its wait list, where it also stays when its own run, not through that door, is granted later (DESIGN CHOICE, log 37;
`LockUnit.grant`). The restored entry keeps the lock that its own run's attempt found held: the
detour's attempt is not its last attempt (DESIGN CHOICE, log 37). -/
def State.sendDetour (s : State) (e : WaitEntry) (r : Run) : State :=
  let s1 := s.withdrawRun e.veh
  let d : WaitEntry := { e with run := r, lane := s1.lu.laneOf r, doors := r.doors }
  match s1.tryGrant d with
  | (s2, .granted) => s2
  | (s2, _) => s2.setLocks (s2.lu.putWait e)

/-- The head-to-head test of one pair. -/
def State.testPair (s : State) (p : Vehicle × Vehicle) : State :=
  match s.lu.waiting? p.1, s.lu.waiting? p.2 with
  | some x, some y =>
    if s.lu.headToHead x y && s.lu.headToHead y x then
      let e := loserOf x y
      match s.lu.detour? e.run.start with
      | some r => s.sendDetour e r
      | none => s
    else s
  | _, _ => s

/-- Each pair of a list once. -/
def pairsOf {α : Type} : List α → List (α × α)
  | [] => []
  | x :: xs => xs.map (fun y => (x, y)) ++ pairsOf xs

/-- An examination of the wait list (R115): an attempt for each entry in order, then the head-to-head test of each pair (R116).
Several pairs are tested in the examination order of their entries (DESIGN CHOICE, log 51). -/
def State.examine (s : State) : State :=
  let s1 := s.lu.ordered.foldl State.examineOne s
  (pairsOf (s1.lu.ordered.map (·.veh))).foldl State.testPair s1

/-! ## Run requests (R111) -/

/-- Answers to a run request made at once; a request that is taken waits or is granted by the examination. -/
inductive RunAnswer
  | taken | notRunning | noRun | noPosition
  deriving DecidableEq, Repr

/-- A run request from the Fleet Dispatcher (R111). -/
def State.runRequest (s : State) (v : Vehicle) (route : Route) (purpose : Option Purpose) (deadline : Option Nat) :
    State × RunAnswer :=
  if s.fd.fleet ≠ .running then (s, .notRunning)
  else match s.lu.routes[route] with
    | none => (s, .noRun)
    | some r =>
      if s.lu.runs[v].isSome then (s, .noPosition)
      else match s.lu.nodeOf v with
        | none => (s, .noPosition)
        | some n =>
          if n = r.dest then (s, .noRun)
          else match s.lu.cutRun r n with
            | none => (s, .noRun)
            | some run =>
              ((s.setLocks (s.lu.putWait
                { veh := v, run := run, lane := s.lu.laneOf run, purpose := purpose.getD .place, doors := run.doors
                  deadline := deadline, since := s.clk.tick, flag := false, held := none })).examine, .taken)

/-- The Fleet Dispatcher hands a waiting vehicle's new deadline (R115). -/
def State.waitDeadline (s : State) (v : Vehicle) (d : Option Nat) : State :=
  s.setLocks (s.lu.modWait v (fun e => { e with deadline := d }))

/-! ## Progress (R114) -/

/-- The Lock Unit's answers to a node report. -/
inductive Progress
  | offRun | ahead (dm : Nat) | runDone (dm : Nat) (detour : Bool)
  deriving DecidableEq, Repr

/-- The length of the route still ahead of a vehicle that has passed `k` segments of a run. -/
def Run.ahead (r : Run) (k : Nat) : Nat := ((r.segs.drop k).map (·.length)).sum + r.after

/-- The doors passed when the segments from `i` to before `j` of a run are passed: those with no later segment (R37, R114). -/
def Run.doorsPassed (r : Run) (i j : Nat) : List (Fin 2) :=
  r.doors.filter (fun d =>
    ((r.segs.take j).drop i).any (fun x => x.attr == .door d.val) && !(r.segs.drop j).any (fun x => x.attr == .door d.val))

/-- A vehicle passes the segments up to before index `j` of its granted run (R114). -/
def State.passTo (s : State) (v : Vehicle) (g : Granted) (j : Nat) (n : Node) : State :=
  let lu1 := ((g.run.segs.take j).drop g.passed).foldl (fun l x => l.setSegLock x.seg none) s.lu
  let lu2 := if g.passed = 0 ∧ lu1.nodeLocks[g.run.start] = some v then lu1.setNodeLock g.run.start none else lu1
  let done := g.run.segs.length ≤ j
  let lu3 := { lu2 with runs := lu2.runs.set v (if done then none else some { g with passed := j, last := n }) }
  let su := (g.run.doorsPassed g.passed j).foldl (fun su d => su.setDoor d (su.doors[d].pass v)) s.su
  ((s.setLocks lu3).setStore su).post .luExamine

/-- A node reported by a vehicle (R114). -/
def State.nodeReport (s : State) (v : Vehicle) (n : Node) : State × Progress :=
  match s.lu.runs[v] with
  | none => if s.lu.nodeLocks[n] = some v then (s, .ahead 0) else (s, .offRun)
  | some g =>
    match (g.run.segs.drop g.passed).findIdx? (fun x => x.far == n) with
    | some i =>
      let j := g.passed + i + 1
      (s.passTo v g j n,
        if g.run.segs.length ≤ j then .runDone (g.run.ahead j) g.run.detour else .ahead (g.run.ahead j))
    | none => if n = g.last then (s, .ahead (g.run.ahead g.passed)) else (s, .offRun)

/-! ## Claims (R119) -/

/-- The Lock Unit's answers to a node claim. -/
inductive ClaimAnswer
  | taken | notFound | conflict
  deriving DecidableEq, Repr

/-- Every lock of a vehicle is released as a claim releases it (R119, R143): locks, run, lane opening, door passage and
waiting request; the wait list is then examined. -/
def State.releaseVehicle (s : State) (v : Vehicle) : State :=
  let s1 := s.withdrawRun v
  let s2 := (s1.setLocks (s1.lu.releaseAll v)).setStore ((s1.su.clearLanesOf s1.clk.tick v).leavePassages v)
  s2.post .luExamine

/-- A node claim (R119). -/
def State.claimNode (s : State) (v : Vehicle) (n : Node) : State × ClaimAnswer :=
  match s.lu.kind? n with
  | none => (s, .notFound)
  | some k =>
    if k = .plain ∨ (s.lu.nodeLocks[n].isSome ∧ s.lu.nodeLocks[n] ≠ some v) then (s, .conflict)
    else
      let s1 := s.releaseVehicle v
      (s1.setLocks (s1.lu.setNodeLock n (some v)), .taken)

/-- VEHICLE REMOVE: the vehicle's node lock is released (R108, R144). An IDLE vehicle has no run in progress; its place in the
list of granted runs is left empty. -/
def State.releaseNode (s : State) (v : Vehicle) : State :=
  (s.setLocks { s.lu with
    nodeLocks := s.lu.nodeLocks.map (fun x => if x = some v then none else x), runs := s.lu.runs.set v none }).post
    .luExamine

/-! ## Fleet state (R110) -/

/-- The vehicles whose runs and lanes a HALTING fleet waits for: enrolled, not LOST, FAULT or halted. -/
def VehRec.counts (r : VehRec) : Bool := r.enrolled && r.state != some .lost && r.state != some .fault && !r.halted

/-- The condition under which a HALTING fleet becomes STOPPED (R110). -/
def State.fleetIdle (s : State) : Bool :=
  (List.finRange 12).all (fun v => !s.fd.vehicles[v].counts || (s.lu.runs[v].isNone && !s.su.opensLane v))

/-- Write the fleet state. -/
def State.setFleet (s : State) (f : FleetState) : State := { s with fd := { s.fd with fleet := f } }

/-- The examination of R110. -/
def State.fleetStopCheck (s : State) : State :=
  if s.fd.fleet = .halting ∧ s.fleetIdle = true then (s.setFleet .stopped).raise srcFleet .fleetStopped else s

/-! ## FLEET START and FLEET STOP (R109, R110) -/

/-- The checks of R109, in the order of its table. -/
inductive PlanCheck
  | nodePlace | nodeEscape | nodeJunction | segNode | segLane | routeEnd | routeSegment | routeChain | routeDirection
  | routeRepeat
  deriving DecidableEq, Repr

/-- The number of a check's code (R187). -/
def PlanCheck.code : PlanCheck → Nat
  | .nodePlace => 0 | .nodeEscape => 1 | .nodeJunction => 2 | .segNode => 3 | .segLane => 4 | .routeEnd => 5
  | .routeSegment => 6 | .routeChain => 7 | .routeDirection => 8 | .routeRepeat => 9

/-- NODE_PLACE (R109). -/
def State.badPlace (s : State) (n : Node) (k : NodeKind) : Bool :=
  let twice := (List.finRange 128).any (fun m => decide (m < n) && s.lu.kind? m == some k)
  match k with
  | .laneHead l => decide (s.su.lanes.length ≤ l) || twice
  | .stand st => (match fin? 24 st with
      | some st => !s.ssq[st].present
      | none => true) || twice
  | .bay _ => twice
  | _ => false

/-- NODE_ESCAPE (R109). -/
def LockUnit.badEscape (lu : LockUnit) (n : Node) (e : Option Node) : Bool :=
  match e with
  | some e => !lu.holding e || e == n
  | none => false

/-- NODE_JUNCTION (R109). -/
def LockUnit.badJunction (lu : LockUnit) (n : Node) (k : NodeKind) : Bool :=
  k == .plain && decide (2 < ((lu.segs.toList.filterMap id).filter (fun r => r.a == n || r.b == n)).length)

/-- The first failing check of a node. -/
def State.checkNode (s : State) (n : Node) : Option PlanCheck :=
  match s.lu.nodes[n] with
  | none => none
  | some r =>
    if s.badPlace n r.kind then some .nodePlace
    else if s.lu.badEscape n r.escape then some .nodeEscape
    else if s.lu.badJunction n r.kind then some .nodeJunction
    else none

/-- The first failing check of a segment. -/
def LockUnit.checkSeg (lu : LockUnit) (g : Seg) : Option PlanCheck :=
  match lu.segs[g] with
  | none => none
  | some r =>
    if (lu.kind? r.a).isNone || (lu.kind? r.b).isNone then some .segNode
    else match r.attr with
      | .lane l =>
        if lu.kind? r.a = some (.laneHead l) ∨ lu.kind? r.b = some (.laneHead l) then none else some .segLane
      | _ => none

/-- ROUTE_DIRECTION: a segment of direction A_TO_B driven from b to a. -/
def LockUnit.againstDirection (lu : LockUnit) (x : RunSeg) : Bool :=
  match lu.segs[x.seg] with
  | some r => r.direction == .aToB && r.b != x.far
  | none => false

/-- The first failing check of a route. -/
def LockUnit.checkRoute (lu : LockUnit) (k : Route) : Option PlanCheck :=
  match lu.routes[k] with
  | none => none
  | some r =>
    let w := lu.walk r.origin r.segs
    if !lu.holding r.origin || !lu.holding r.dest then some .routeEnd
    else if r.segs.any (fun g => lu.segs[g].isNone) then some .routeSegment
    else if w.length ≠ r.segs.length ∨ (w.getLast?.map (·.far)) ≠ some r.dest then some .routeChain
    else if w.any lu.againstDirection then some .routeDirection
    else if ¬ (lu.nodeSeq r).Nodup then some .routeRepeat
    else none

/-- The first failing item of the plan: table (0 node, 1 segment, 2 route), item number and check (R109). -/
def State.planFault (s : State) : Option (Nat × Nat × PlanCheck) :=
  match (List.finRange 128).findSome? (fun n => (s.checkNode n).map (fun c => (0, n.val, c))) with
  | some x => some x
  | none =>
    match (List.finRange 192).findSome? (fun g => (s.lu.checkSeg g).map (fun c => (1, g.val, c))) with
    | some x => some x
    | none => (List.finRange 256).findSome? (fun k => (s.lu.checkRoute k).map (fun c => (2, k.val, c)))

/-- The total length of every route is computed (R106, R109). -/
def LockUnit.withTotals (lu : LockUnit) : LockUnit :=
  { lu with routes := lu.routes.map (fun o => o.map (fun r => { r with total := some (lu.sumLength r) })) }

/-- FLEET START (R109). -/
def reqFleetStart (s : State) : State × Reply :=
  match s.fd.fleet with
  | .running => (s, .code .ok)
  | .halting => ((s.setFleet .running).post .fdRuns, .code .ok)
  | .stopped =>
    match s.planFault with
    | some (t, k, c) => (s.raise srcFleet .planInvalid, ⟨.badState, u8 t ++ u8 k ++ u8 c.code⟩)
    | none => (((s.setLocks s.lu.withTotals).setFleet .running).post .fdRuns, .code .ok)

/-- A vehicle whose run request has been withdrawn at FLEET STOP keeps its task; its request is held back (R110, R130). -/
def VehRec.holdBack (r : VehRec) : VehRec := if r.phase = .runWait then { r with phase := .heldBack } else r

/-- FLEET STOP (R110). -/
def reqFleetStop (s : State) : State × Reply :=
  if s.fd.fleet = .running then
    let s1 := (List.finRange 12).foldl State.withdrawRun (s.setFleet .halting)
    (({ s1 with fd := { s1.fd with vehicles := s1.fd.vehicles.map VehRec.holdBack } }).fleetStopCheck, .code .ok)
  else (s, .code .ok)

/-! ## Floor plan requests (R107) -/

/-- The lane, bay or stand number of a node kind is in range (R107). -/
def kindInRange : NodeKind → Bool
  | .laneHead l => decide (l < 16)
  | .bay b => decide (b < 8)
  | .stand st => decide (st < 24)
  | _ => true

/-- The node is an end of a locked segment. -/
def LockUnit.onLockedSeg (lu : LockUnit) (n : Node) : Bool :=
  (List.finRange 192).any (fun g => lu.segLocks[g].isSome && (match lu.segs[g] with
    | some r => r.a == n || r.b == n
    | none => false))

/-- The escape node named, when it is within range; the flag tells a value out of range. -/
def nodeArg : Option Nat → Option Node × Bool
  | none => (none, false)
  | some k => (fin? 128 k, (fin? 128 k).isNone)

/-- FLOOR NODE (R107). -/
def reqFloorNode (number : Nat) (kind : Option NodeKind) (escape : Option Nat) (s : State) : State × Reply :=
  match fin? 128 number, kind with
  | some n, some k =>
    if !kindInRange k || (escape.isSome && k != .hold) || (nodeArg escape).2 then (s, .code .badFrame)
    else if s.fd.fleet ≠ .stopped ∨ s.lu.nodeLocks[n].isSome = true ∨ s.lu.onLockedSeg n = true then (s, .code .locked)
    else (s.setLocks { s.lu with nodes := s.lu.nodes.set n (some ⟨k, (nodeArg escape).1⟩) }, .code .ok)
  | _, _ => (s, .code .badFrame)

/-- The door or lane number of a segment attribute is in range (R107). -/
def attrInRange : SegAttr → Bool
  | .door d => decide (d < 2)
  | .lane l => decide (l < 16)
  | .none => true

/-- FLOOR SEGMENT (R107). -/
def reqFloorSegment (number a b length : Nat) (attr : Option SegAttr) (direction : Option Direction) (s : State) :
    State × Reply :=
  match fin? 192 number, fin? 128 a, fin? 128 b, attr, direction with
  | some g, some na, some nb, some t, some d =>
    if na = nb ∨ attrInRange t = false then (s, .code .badFrame)
    else if s.fd.fleet ≠ .stopped ∨ s.lu.segLocks[g].isSome = true then (s, .code .locked)
    else
      let len := clamp 1 65535 length
      (s.setLocks { s.lu with segs := s.lu.segs.set g (some ⟨na, nb, len, t, d⟩) }, .code (okOr (len != length)))
  | _, _, _, _, _ => (s, .code .badFrame)

/-- FLOOR ROUTE (R107). -/
def reqFloorRoute (number origin destination : Nat) (segments : List Nat) (s : State) : State × Reply :=
  match fin? 256 number, fin? 128 origin, fin? 128 destination with
  | some k, some o, some d =>
    if segments.length = 0 ∨ 16 < segments.length ∨ segments.any (fun g => decide (192 ≤ g)) = true then
      (s, .code .badFrame)
    else if s.fd.fleet ≠ .stopped then (s, .code .locked)
    else (s.setLocks { s.lu with routes := s.lu.routes.set k (some ⟨o, d, segments.filterMap (fin? 192), none⟩) },
      .code .ok)
  | _, _, _ => (s, .code .badFrame)

/-- Whether a vehicle holds any lock: a segment, a holding node or an OPEN lane (TERMS: lock). -/
def State.anyLock (s : State) : Bool := s.lu.anyLock || s.su.lanes.any LaneRec.isOpen

/-- FLOOR CLEAR (R107). -/
def reqFloorClear (s : State) : State × Reply :=
  if s.fd.fleet ≠ .stopped ∨ s.anyLock = true then (s, .code .locked)
  else (s.setLocks { s.lu with
    nodes := Vector.replicate 128 none, segs := Vector.replicate 192 none, routes := Vector.replicate 256 none }, .code .ok)

/-! ## FLOOR QUERY (R120) -/

/-- A node kind: its enumerated value, then its parameter (R187). -/
def kindField : NodeKind → List Byte
  | .plain => u8 0 | .hold => u8 1 | .laneHead l => u8 2 ++ u8 l | .bay b => u8 3 ++ u8 b | .stand st => u8 4 ++ u8 st
  | .charger => u8 5 | .park => u8 6 | .home => u8 7

def attrField : SegAttr → List Byte
  | .none => u8 0 | .door d => u8 1 ++ u8 d | .lane l => u8 2 ++ u8 l

def NodeRec.field (r : NodeRec) : List Byte := kindField r.kind ++ optField (fun n : Node => u8 n.val) r.escape

def SegRec.field (r : SegRec) : List Byte :=
  u8 r.a.val ++ u8 r.b.val ++ u16 r.length ++ attrField r.attr ++ u8 (match r.direction with
    | .both => 0
    | .aToB => 1)

/-- A route record with its total length or — and its node sequence. -/
def LockUnit.routeField (lu : LockUnit) (r : RouteRec) : List Byte :=
  u8 r.origin.val ++ u8 r.dest.val ++ listField (fun g : Seg => u8 g.val) r.segs ++ optField u32 r.total ++
  listField (fun n : Node => u8 n.val) (lu.nodeSeq r)

def HeldLock.field : HeldLock → List Byte
  | .segment g => u8 0 ++ u8 g.val | .node n => u8 1 ++ u8 n.val | .lane l => u8 2 ++ u8 l | .door d => u8 3 ++ u8 d.val

/-- An entry of the wait list at the tick given (R120). -/
def WaitEntry.field (tick : Nat) (e : WaitEntry) : List Byte :=
  u8 e.veh.val ++ u8 e.run.start.val ++ u8 e.run.stop.val ++ optField u32 e.deadline ++ u32 (tick - e.since) ++ Machine.flag e.flag ++
  optField HeldLock.field e.held

/-- FLOOR QUERY (R120). -/
def reqFloorQuery (form : Option FloorForm) (s : State) : State × Reply :=
  let veh : Option Vehicle → List Byte := optField (fun v : Vehicle => u8 v.val)
  match form with
  | none => (s, .code .badFrame)
  | some (.node n) =>
    match fin? 128 n with
    | some n => (s, ⟨.ok, optField NodeRec.field s.lu.nodes[n] ++ veh s.lu.nodeLocks[n]⟩)
    | none => (s, .code .badFrame)
  | some (.segment g) =>
    match fin? 192 g with
    | some g => (s, ⟨.ok, optField SegRec.field s.lu.segs[g] ++ veh s.lu.segLocks[g]⟩)
    | none => (s, .code .badFrame)
  | some (.route k) =>
    match fin? 256 k with
    | some k => (s, ⟨.ok, optField s.lu.routeField s.lu.routes[k]⟩)
    | none => (s, .code .badFrame)
  | some .waits => (s, ⟨.ok, listField (WaitEntry.field s.clk.tick) s.lu.ordered⟩)

/-! ## Hold timeout (R117) -/

/-- A waiting entry exceeds the hold timeout: HOLD_TIMEOUT is raised once for the wait. -/
def State.holdTimeout (s : State) (v : Vehicle) : State :=
  match s.lu.waiting? v with
  | some e =>
    if e.flag then s
    else (s.setLocks (s.lu.modWait v (fun e => { e with flag := true }))).raise (srcVeh v) .holdTimeout
  | none => s

end Sys2Proof.Machine
end

