-- ==== Sys2Proof/Machine/Link.lean ====
section
/-! DEFINITION. The Fleet Link (chapter 8): orders, the poll cycle, frame layouts, and the link's side of status frames and
missed visits. What the Fleet Dispatcher does with them is in Fleet.lean. -/

namespace Sys2Proof.Machine

/-! ## Orders (R150, R156) -/

/-- The wake reply limit in ms by power state (R156). -/
def wakeLimit : Power → Nat
  | .sleep => 30000
  | .doze | .awake => 5000

/-- The link record once it has taken an order (R150): a WAKE sets the wake expiry, another order removes it (R156). -/
def LinkRec.take (r : LinkRec) (o : Order) (tick : Nat) (p : Power) : LinkRec :=
  { r with
    count := (r.count + 1) % 16
    order := some o
    echoed := false
    awaitMotion := false
    wakeExpiry := if o = .wake then some (tick + wakeLimit p) else none }

/-- The Fleet Dispatcher hands an order for a vehicle (R150). -/
def State.order (s : State) (v : Vehicle) (o : Order) : State :=
  s.setLink v (s.fl.links[v].take o s.clk.tick s.fd.vehicles[v].power)

/-! ## Frames of the part (R158) -/

/-- Kind numbers of the part's frames; POLL is 0. -/
def Order.kind : Order → Nat
  | .go _ _ => 1 | .pickRead => 2 | .lift => 3 | .backout => 4 | .place => 5 | .dock => 6 | .undock => 7 | .halt => 8
  | .doze => 9 | .sleep => 10 | .wake => 11 | .home => 12

/-- Arguments of an order: GO carries its end node, then its segments. -/
def Order.args : Order → List Byte
  | .go segs stop => u8 stop.val ++ (segs.map (fun g => u8 g.val)).flatten
  | _ => []

/-- A frame of the part to a vehicle: start byte, body, CRC. -/
def partFrame (v : Vehicle) (kind count : Nat) (last : Option Nat) (args : List Byte) : List Byte :=
  let body := u8 v.val ++ u8 kind ++ u8 count ++ u8 (last.getD 255) ++ u8 args.length ++ args
  0x5C :: (body ++ [crc8 body])

/-- What a visit sends: the current order until echoed, POLL afterwards (R149). -/
def LinkRec.frame (r : LinkRec) (v : Vehicle) : List Byte :=
  match r.order with
  | some o => if r.echoed then partFrame v 0 r.count r.lastEvent [] else partFrame v o.kind r.count r.lastEvent o.args
  | none => partFrame v 0 r.count r.lastEvent []

/-- An order is present and not yet echoed. -/
def LinkRec.ordering (r : LinkRec) : Bool := r.order.isSome && !r.echoed

/-! ## The poll cycle (R149) -/

/-- Whether the cycle with a number includes a vehicle (R149). -/
def State.visited (s : State) (v : Vehicle) (cycle : Nat) : Bool :=
  s.fd.vehicles[v].enrolled &&
    (s.fl.links[v].ordering || (match s.fd.vehicles[v].power with
      | .awake => true
      | .doze => cycle == v.val % 8
      | .sleep => false))

/-- Write the Fleet Link's line state. -/
def State.setLine (s : State) (cycle : Nat) (visit : Option Visit) (sent : Option (List Byte)) : State :=
  { s with fl := { s.fl with cycle := cycle, visit := visit, sent := sent } }

/-- A poll cycle starts (R149): from it on a vehicle enrolled during the last one is visited (R157). -/
def State.pollCycle (s : State) : State :=
  { s with fl := { s.fl with cycle := (s.fl.cycle + 1) % 8, links := s.fl.links.map (fun r => { r with fresh := false }) } }

/-- The ticks in which the part sends a frame of `n` bytes (R158): whole milliseconds, rounded up (log 7). -/
def sendTicks (n : Nat) : Nat := (n * Config.fleetByteBits * 10 + Config.fleetBaud - 1) / Config.fleetBaud

/-- The visit that begins at a tick with a frame of `n` bytes (R149, R153): the window opens when the last byte is sent. -/
def Visit.begin (v : Vehicle) (tick n : Nat) : Visit :=
  { veh := v, opens := tick + sendTicks n, closes := tick + sendTicks n + Config.replyWindow, spoiled := false
    removed := false }

/-- A vehicle's slot (R149): the part sends it its current order or POLL, or stays quiet. A vehicle enrolled during the
cycle is not visited in it (R157). A slot that finds another visit in progress stays quiet (log 15). -/
def State.visitSlot (s : State) (v : Vehicle) : State :=
  if s.visited v s.fl.cycle && !s.fl.links[v].fresh && s.fl.visit.isNone then
    let frame := s.fl.links[v].frame v
    s.setLine s.fl.cycle (some (Visit.begin v s.clk.tick frame.length)) (some frame)
  else s

/-- The level of the FL_DE output (R158): high while the part sends a frame, low while it listens. -/
def State.fleetDriveOut (s : State) : Bool :=
  match s.fl.visit with
  | some x => decide (s.clk.tick < x.opens)
  | none => false

/-- The visit in progress ends. -/
def State.endVisit (s : State) : State := s.setLine s.fl.cycle none s.fl.sent

/-! ## Status frames (R152, R153, R158) -/

def motion? : Nat → Option Motion
  | 0 => some .stopped
  | 1 => some .moving
  | 2 => some .lifting
  | 3 => some .lowering
  | 4 => some .docked
  | _ => none

/-- A node byte: a node, or the mark for none; the outer none is a value that corrupts the frame. -/
def nodeByte? (n : Nat) : Option (Option Node) :=
  if n = 255 then some none else (fin? 128 n).map some

/-- A tag of the frame: roll 0 is NO_READ. -/
def tagOf (n : Nat) : Tag := if n = 0 then .noRead else .roll n

/-- The event of kind byte `k` with argument bytes; the outer none is a kind or a node that corrupts the frame. -/
def event? (k : Nat) (arg : List Byte) : Option (Option VehEvent) :=
  match k with
  | 0 => some none
  | 1 => (nodeByte? (arg.headD 0).toNat).map (fun n => some (.passed n))
  | 2 => (nodeByte? (arg.headD 0).toNat).map (fun n => some (.at n))
  | 3 => some (some (.tag (tagOf (natLE arg))))
  | 4 => some (some .lifted)
  | 5 => some (some .placed)
  | 6 => (nodeByte? (arg.headD 0).toNat).map (fun n => some (.homeReached n))
  | 7 => some (some (.error (arg.headD 0).toNat))
  | _ => none

/-- The fields of a status frame; none when the frame is corrupt (R153). An event number above 15 is read modulo 16 and a
charge flag byte other than 1 as clear (log 16). -/
def statusFields? : List Byte → Option StatusFields
  | [b0, b1, b2, b3, b4, b5, b6, b7, b8, b9, b10, b11, b12, b13] =>
    if b0 = 0xC5 ∧ b13 = crc8 [b1, b2, b3, b4, b5, b6, b7, b8, b9, b10, b11, b12] ∧ b5.toNat < 2 then
      match fin? 12 b1.toNat, motion? b3.toNat, nodeByte? b4.toNat, event? b7.toNat [b9, b10, b11, b12] with
      | some v, some m, some n, some e =>
        some ⟨v, b2.toNat, ⟨m, n, b5 == 1, b6 == 1⟩, e, b8.toNat % 16⟩
      | _, _, _, _ => none
    else none
  | _ => none

/-! ## Echo and event (R151, R154) -/

/-- The power state after an echo of an order (R151). -/
def powerAfter : Order → Power → Power
  | .doze, _ => .doze
  | .sleep, _ => .sleep
  | _, _ => .awake

/-- The motion that the echo report of an order waits on (R151). -/
def awaited : Order → Option Motion
  | .dock => some .docked
  | .undock => some .stopped
  | _ => none

/-- A frame acknowledges the current order (R151). -/
def LinkRec.echoes (r : LinkRec) (f : StatusFields) : Bool := r.ordering && f.count == r.count

/-- The order whose echo a frame reports to the Fleet Dispatcher (R151). -/
def LinkRec.reports (r : LinkRec) (f : StatusFields) : Option Order :=
  match r.order with
  | none => none
  | some o =>
    let due := r.echoes f || (r.awaitMotion && f.count == r.count)
    match awaited o with
    | none => if r.echoes f then some o else none
    | some m => if due && f.status.motion == m then some o else none

/-- Whether the frame's event is a repeat (R154). -/
def LinkRec.repeats (r : LinkRec) (f : StatusFields) : Bool := r.lastEvent == some f.number

/-- The event of a frame that is taken (R154). -/
def LinkRec.event (r : LinkRec) (f : StatusFields) : Option VehEvent := if r.repeats f then none else f.event

/-- Whether the event taken follows a gap (R154). -/
def LinkRec.gapAt (r : LinkRec) (f : StatusFields) : Bool :=
  match r.lastEvent with
  | none => false
  | some k => f.event.isSome && f.number != k && f.number != (k + 1) % 16

/-- The link record after a taken frame (R151, R153, R154). -/
def LinkRec.takeFrame (r : LinkRec) (f : StatusFields) : LinkRec :=
  { r with
    misses := 0
    status := some f.status
    echoed := r.echoed || r.echoes f
    wakeExpiry := if r.echoes f then none else r.wakeExpiry
    awaitMotion := (r.awaitMotion || r.echoes f) && (r.order.bind awaited).isSome && (r.reports f).isNone
    lastEvent := if f.event.isSome then some f.number else r.lastEvent
    gaps := if r.gapAt f then min 255 (r.gaps + 1) else r.gaps }

/-! ## Misses (R155, R156) -/

/-- A missed visit is not counted in SLEEP or while a WAKE is not echoed (R155). -/
def State.missCounts (s : State) (v : Vehicle) : Bool :=
  s.fd.vehicles[v].power != .sleep && !(s.fl.links[v].ordering && s.fl.links[v].order == some .wake)

/-! ## Bytes of replies (R159) -/

/-- The link fields of VEHICLE QUERY (R159). Order count, miss count, event number and gaps take a byte each (DEDUCED, log 19). -/
def State.linkField (s : State) (v : Vehicle) : List Byte :=
  let r := s.fl.links[v]
  u8 r.count ++ optField (fun o : Order => u8 o.kind) r.order ++ flag r.echoed ++ u8 r.misses ++ optField u8 r.lastEvent ++
  u8 r.gaps ++ optField (fun e : Nat => u32 (e - s.clk.tick)) r.wakeExpiry ++ flag (s.visited v ((s.fl.cycle + 1) % 8))

def Motion.code : Motion → Nat
  | .stopped => 0 | .moving => 1 | .lifting => 2 | .lowering => 3 | .docked => 4

end Sys2Proof.Machine
end

