-- ==== Sys2Proof/Machine/Fleet.lean ====
section
/-! DEFINITION. The Fleet Dispatcher (chapter 7): tasks and their ends, the work of a vehicle step by step, charge, parking
and sleep, faults, and the fleet's side of status frames. The arbiter and the requests are in Dispatcher.lean. -/

namespace Sys2Proof.Machine

/-! ## Vehicle records -/

/-- A vehicle owes a charge as it stands: without task, in IDLE or DOZE, with a balance of 6 or more (R136). -/
def VehRec.owesCharge (r : VehRec) : Bool :=
  r.task.isNone && (r.state == some .idle || r.state == some .doze) && decide (6 ≤ r.balance)

/-- Charge due is set as soon as a vehicle owes a charge (R136): each change of a record that can make this so, of the state, of
the task or of the balance, ends with it. -/
def VehRec.markDue (r : VehRec) : VehRec := { r with chargeDue := r.chargeDue || r.owesCharge }

/-- A change of state (R123): the state entry becomes the hall time, a fault cause is held in FAULT only, and the delays
count from now (R138, R139). -/
def VehRec.enter (r : VehRec) (st : VehState) (now : Nat) : VehRec :=
  if r.state = some st then r
  else ({ r with
    state := some st, entry := some now, delayFrom := now, parkWait := false, sleepTested := false
    cause := if st = .fault then r.cause else none } : VehRec).markDue

/-- A vehicle changes state. -/
def State.vehState (s : State) (v : Vehicle) (st : VehState) : State := s.modVeh v (fun r => r.enter st s.clk.hall)

/-- A vehicle stands at a step of its work. -/
def State.vehPhase (s : State) (v : Vehicle) (p : Phase) : State := s.modVeh v (fun r => { r with phase := p })

/-- An order, unless the vehicle is halted: "the FD gives it no further order" (R141). -/
def State.orderIf (s : State) (v : Vehicle) (o : Order) : State := if s.fd.vehicles[v].halted then s else s.order v o

/-- The node of a place (R124): the LANE_HEAD, BAY or STAND node that names it, or the node itself. -/
def LockUnit.placeNode (lu : LockUnit) : Place → Option Node
  | .stand st => (List.finRange 128).find? (fun n => lu.kind? n == some (.stand st.val))
  | .lane l => (List.finRange 128).find? (fun n => lu.kind? n == some (.laneHead l))
  | .bay b => (List.finRange 128).find? (fun n => lu.kind? n == some (.bay b.val))
  | .node n => some n

/-- The vehicle stands WAITING at a step. -/
def State.waitAt (s : State) (v : Vehicle) (p : Phase) : State := (s.vehState v .waiting).vehPhase v p

/-- A halted vehicle's step that would begin with an order or a run (R141). -/
def State.stall (s : State) (v : Vehicle) : State := s.waitAt v .stalled

/-- A vehicle IDLE at the lane head node of a lane open by it, with no work begun there, is reported to the Store Unit
(R23, R130). A halted vehicle's lane stays OPEN with its other frozen locks (R118, R121). -/
def State.leaveUnusedLane (s : State) (v : Vehicle) : State :=
  let r := s.fd.vehicles[v]
  match r.node.bind s.lu.kind? with
  | some (.laneHead l) => if r.workBegun || r.halted then s else s.setStore (s.su.clearLane s.clk.tick l v)
  | _ => s

/-- The vehicle becomes IDLE where it stands, and is free for its next task. The place it worked at and the roll it
expected are kept, so that a LIFTED or PLACED it reports later can be offered (R132, R147). -/
def State.becomeIdle (s : State) (v : Vehicle) : State :=
  (((s.vehState v .idle).modVeh v (fun r => { r with phase := .none, undocking := false })).leaveUnusedLane v).post
    (.fdFree v)

/-! ## Tasks -/

/-- The vehicle a task has: the one named whose task it is; a MOVE not yet given has none (R127). -/
def State.taskVeh (s : State) (t : TaskRec) : Option Vehicle :=
  match t.vehicle with
  | some v => if s.fd.vehicles[v].task = some t.id then some v else none
  | none => none

/-- The figures handed with a report of a DELIVER task (R97, R129). The Feed Planner's estimate keeps the speed so handed
until the next report, also after a VEHICLE ENROL has changed it (DEDUCED from R144, log 38). -/
def State.figures (s : State) (t : TaskRec) : Option Figures :=
  match s.taskVeh t with
  | some v => some ⟨(t.route.map (·.ahead)).getD 0, t.toStand, s.fd.vehicles[v].speed⟩
  | none => none

/-- State and figures of a DELIVER task are handed to the Feed Planner (R95, R97, R130). -/
def State.reportTask (s : State) (id : Nat) : State :=
  match s.task? id with
  | some t => if t.kind = .deliver then s.post (.fpTask id t.state (s.figures t)) else s
  | none => s

/-- The task of a vehicle takes a state. -/
def State.taskState (s : State) (id : Nat) (st : TaskState) : State := s.modTask id (fun t => { t with state := st })

/-- The bays reserved for a task: its reserved bay and a bay that is its destination (R91, R126, R127, R135). -/
def TaskRec.bays (t : TaskRec) : List (Fin 8) :=
  t.bay.toList ++ (match t.dest with
    | some (.bay b) => [b]
    | _ => [])

/-- The outcome a vehicle record keeps of a task (R122, R132, R135). -/
def TaskRec.outcome (t : TaskRec) (res : TaskResult) (expected : Option Nat) : TaskOutcome :=
  { id := t.id, kind := t.kind, result := res
    tag := if t.kind = .check ∧ res = .done then some ((expected.map Tag.roll).getD .noRead) else none
    moved := if t.kind = .unstack then some t.moved else none }

/-- The vehicle record once its task has ended (R126, R136). The end of a CHARGE task at the echo of DOCK sets no charge due
(`State.docked`). -/
def VehRec.endTask (r : VehRec) (o : TaskOutcome) : VehRec :=
  ({ r with task := none, outcome := some o, chargeDue := r.chargeDue || r.barred } : VehRec).markDue

/-- The reason raised at a task's end (R126). -/
def TaskResult.reason : TaskResult → Reason
  | .done => .taskDone
  | .failed _ => .taskFailed

/-- A task leaves the queue; the mark of QUEUE_FULL goes when fewer than 32 remain (R125). -/
def State.dropTask (s : State) (id : Nat) : State :=
  let ts := s.fd.tasks.filter (fun t => t.id != id)
  { s with fd := { s.fd with tasks := ts, fullMark := s.fd.fullMark && decide (Config.taskQueue ≤ ts.length) } }

/-- The part of a task's end that concerns its vehicle (R126). -/
def State.endAtVehicle (s : State) (t : TaskRec) (res : TaskResult) : State :=
  match s.taskVeh t with
  | none => s
  | some v =>
    let s1 := (s.modVeh v (fun r => r.endTask (t.outcome res r.expected))).raise (srcVeh v) res.reason
    match t.stand with
    | some st => s1.placeEnded st v
    | none => s1

/-- The end of a DELIVER or RELOCATE task is reported to the Feed Planner (R126). -/
def State.reportEnd (s : State) (t : TaskRec) (res : TaskResult) : State :=
  if t.kind = .deliver ∨ t.kind = .relocate then s.post (.fpEnd ⟨t.id, t.kind, t.roll, res⟩) else s

/-- A task ends (R126). The freed slot is offered before any hand-off under way, so that a waiting CHARGE or PARK task takes it
before the Feed Planner's (R125). `silent` leaves out the report to the Feed Planner (a removal at its request, R127); the vehicle's
own state is left as it is. -/
def State.endTask (s : State) (id : Nat) (res : TaskResult) (silent : Bool) : State :=
  match s.task? id with
  | none => s
  | some t =>
    let s1 := (s.endAtVehicle t res).dropTask id
    let s2 := t.bays.foldl (fun s b => s.releaseBay b id) s1
    (if silent then s2 else s2.reportEnd t res).postFirst .fdSlot

/-- A vehicle's task ends and the vehicle stands IDLE where it is (R126). -/
def State.finishTask (s : State) (v : Vehicle) (res : TaskResult) : State :=
  match s.fd.vehicles[v].task with
  | some id => (s.endTask id res false).becomeIdle v
  | none => s.becomeIdle v

/-- The result a cancel gives a task (R128): an UNSTACK ends DONE, any other FAILED(CANCELLED). -/
def TaskRec.cancelResult (t : TaskRec) : TaskResult := if t.kind = .unstack then .done else .failed .cancelled

/-- The result of a task whose step would end FAILED for `r`: a cancel pending takes its place where R128 says so. -/
def TaskRec.failResult (t : TaskRec) (r : FailReason) : TaskResult := if t.cancel then t.cancelResult else .failed r

/-! ## Driving (R130) -/

/-- The place a task works at next. -/
def TaskRec.target (t : TaskRec) : Option Place :=
  if t.state = .carrying then t.dest
  else match t.kind with
    | .move | .charge | .park => t.dest
    | _ => t.source

/-- The lane purpose of the work at the next place (R130). -/
def TaskRec.purpose (t : TaskRec) : Purpose :=
  if t.state = .carrying then .place
  else match t.kind with
    | .check => .check
    | .move => .place
    | _ => .pick

/-- A run on the task's route is requested (R130); a refusal ends the task. -/
def State.askRun (s : State) (v : Vehicle) (t : TaskRec) : State :=
  if s.fd.vehicles[v].halted then s.stall v
  else match t.route with
    | none => s.finishTask v (.failed .noRoute)
    | some r =>
      let p := match t.target with
        | some (.lane _) => some t.purpose
        | _ => none
      match (s.waitAt v .runWait).runRequest v r.number p t.deadline with
      | (s1, .taken) => s1
      | (s1, .notRunning) => s1.waitAt v .heldBack
      | (s1, .noRun) | (s1, .noPosition) => s1.finishTask v (.failed .runRefused)

/-! ## Work at a place (R131, R133, R134) -/

/-- The task record of a task that ends with a result at the next AT report holds its fail reason meanwhile (R124). -/
def TaskRec.willEnd (t : TaskRec) : TaskResult → TaskRec
  | .done => t
  | .failed r => { t with fail := some r }

/-- The vehicle's task ends with a result at the AT report. -/
def State.leaveWith (s : State) (v : Vehicle) (res : TaskResult) : State :=
  let s1 := match s.fd.vehicles[v].task with
    | some id => s.modTask id (fun t => t.willEnd res)
    | none => s
  s1.vehPhase v (.leaving res)

/-- BACKOUT is ordered, but for a halted vehicle; the task ends with a result at the AT report. A halted vehicle whose TAG ends
its reads stays PICKING until then, not WAITING: R141 names RUN_DONE, LIFTED and PLACED alone (DEDUCED, log 25). -/
def State.backOut (s : State) (v : Vehicle) (res : TaskResult) : State :=
  ((s.orderIf v .backout).modVeh v (fun r => { r with workBegun := true, backDue := r.backDue || !r.halted })).leaveWith v res

/-- Task and vehicle become PICKING with no reads made (R131). -/
def State.picking (s : State) (v : Vehicle) (id : Nat) (expected : Option Nat) : State :=
  ((s.modTask id (fun t => { t with state := .picking, reads := 0 })).vehState v .picking).modVeh v
    (fun r => { r with expected := expected })

/-- A read is ordered (R131, R132). -/
def State.read (s : State) (v : Vehicle) : State :=
  (s.orderIf v .pickRead).modVeh v (fun r => { r with phase := .reading, workBegun := true })

/-- A pick or check begins in a lane (R131). -/
def State.pickLane (s : State) (v : Vehicle) (t : TaskRec) (l : Nat) : State :=
  let head := s.su.laneHead? l
  if t.kind = .unstack ∧ head = none then s.finishTask v .done
  else if s.fd.vehicles[v].halted then s.stall v
  else
    let s1 := s.picking v t.id head
    if (t.kind = .deliver ∨ t.kind = .relocate) ∧ head ≠ t.roll then s1.backOut v (.failed .headChanged) else s1.read v

/-- A pick begins at a bay (R131, R32). -/
def State.pickBay (s : State) (v : Vehicle) (t : TaskRec) (b : Fin 8) : State :=
  match s.su.bays[b].state, s.su.bays[b].suspect with
  | .occupied x, false =>
    if t.roll ≠ some x then s.finishTask v (.failed .headChanged)
    else if s.fd.vehicles[v].halted then s.stall v
    else (s.picking v t.id (some x)).read v
  | _, _ => s.finishTask v (.failed .storeRefused)

/-- A placement begins at a lane or bay (R133); a MOVE that arrives empty is done. A vehicle of another task is ordered PLACE, also
when a late PLACED has emptied it meanwhile; its PLACED is then refused (DEDUCED, log 60). -/
def State.beginPlace (s : State) (v : Vehicle) (t : TaskRec) : State :=
  if t.kind = .move ∧ s.fd.vehicles[v].load = none then s.finishTask v .done
  else if s.fd.vehicles[v].halted then s.stall v
  else
    (((s.taskState t.id .placing).vehState v .placing).orderIf v .place).modVeh v
      (fun r => { r with phase := .lowering, workBegun := true })

/-- Place begin is sent to the Stand Sequencer (R134). A halted vehicle sends none and is WAITING with its task as it is, though
place begin is neither an order nor a run (DEDUCED, log 25). -/
def State.beginStand (s : State) (v : Vehicle) (t : TaskRec) (st : Stand) : State :=
  if s.fd.vehicles[v].halted then s.stall v
  else
    let s1 := (s.taskState t.id .placing).vehState v .placing
    match s1.placeBegin st v with
    | (s2, .accepted) => (s2.orderIf v .place).modVeh v (fun r => { r with phase := .lowering, workBegun := true })
    | (s2, .wait) => s2.vehPhase v .standWait
    | (s2, .refused) => s2.finishTask v (.failed .standRefused)

/-- DOZE is ordered and the vehicle becomes DOZE (R138). -/
def State.doze (s : State) (v : Vehicle) : State :=
  if s.fd.vehicles[v].halted then s else (s.order v .doze).vehState v .doze

/-- The work of a task begins at the place reached (R130). -/
def State.beginWork (s0 : State) (v : Vehicle) (t : TaskRec) (p : Place) : State :=
  let s := s0.modVeh v (fun r => { r with work := some p })
  match t.kind, p with
  | .charge, _ => if s.fd.vehicles[v].halted then s.stall v else (s.order v .dock).waitAt v .dockWait
  | .park, _ => (s.finishTask v .done).doze v
  | .move, .node _ => s.finishTask v .done
  | _, .stand st => s.beginStand v t st
  | _, .lane l => if t.purpose = .place then s.beginPlace v t else s.pickLane v t l
  | _, .bay b => if t.state = .carrying ∨ t.kind = .move then s.beginPlace v t else s.pickBay v t b
  | _, .node _ => s.finishTask v .done

/-- A vehicle that already stands at a lane's head node asks the Store Unit to open the lane (R130). -/
def State.openHere (s : State) (v : Vehicle) (t : TaskRec) (l : Nat) : State :=
  if s.fd.vehicles[v].halted then s.stall v
  else match s.su.openLane l v t.purpose with
    | (_, .refused) => s.finishTask v (.failed .laneRefused)
    | (_, .notFree) => s.waitAt v .laneWait
    | (su, .opened) => ((s.setStore su).modVeh v (fun r => { r with workBegun := false, backDue := false })).beginWork v t (.lane l)

/-- The vehicle drives to a place of its task, or begins its work there (R130). -/
def State.driveTo (s : State) (v : Vehicle) (t : TaskRec) (p : Place) : State :=
  match s.lu.placeNode p, s.fd.vehicles[v].node with
  | some m, some n =>
    if n = m then
      match p with
      | .lane l => s.openHere v t l
      | _ => s.beginWork v t p
    else match s.lu.lookup n m false with
      | none => s.finishTask v (.failed .noRoute)
      | some a =>
        let route : TaskRoute := ⟨a.number, a.nodes, a.total⟩
        (s.modTask t.id (fun t => { t with route := some route })).askRun v { t with route := some route }
  | _, _ => s.finishTask v (.failed .noRoute)

/-! ## Chargers and PARK nodes (R137, R138) -/

/-- The nodes of a kind that are free: loaded, not locked, and not the destination of another task of the kind. -/
def State.freeNodes (s : State) (k : NodeKind) (tk : TaskKind) : List Node :=
  (List.finRange 128).filter (fun n =>
    s.lu.kind? n == some k && s.lu.nodeLocks[n].isNone &&
      !s.fd.tasks.any (fun t => t.kind == tk && t.dest == some (.node n)))

/-- The free node with the shortest route from the vehicle's node, then the lowest number. -/
def State.nearest (s : State) (v : Vehicle) (ns : List Node) : Option Node :=
  match s.fd.vehicles[v].node with
  | none => none
  | some n =>
    (firstBy? (fun x y : Nat × Node => decide (x.1 < y.1))
      (ns.filterMap (fun m => (s.lu.lookup n m false).map (fun a => (a.total, m))))).map (·.2)

/-- A vehicle with a CHARGE task chooses a charger, or keeps waiting (R137). -/
def State.chooseCharger (s : State) (v : Vehicle) (t : TaskRec) : State :=
  if s.fd.vehicles[v].halted then s.stall v
  else match s.nearest v (s.freeNodes .charger .charge) with
    | none => s.waitAt v .chargerWait
    | some n =>
      let t1 := { t with dest := some (.node n) }
      (s.modTask t.id (fun t => { t with dest := some (.node n) })).driveTo v t1 (.node n)

/-! ## UNSTACK rounds (R135) -/

/-- A roll is the roll of a RELOCATE task. -/
def State.relocating (s : State) (n : Nat) : Bool := s.fd.tasks.any (fun t => t.kind == .relocate && t.roll == some n)

/-- The lane's list has no head that UNSTACK may take (R135 test 2). -/
def State.unstackShort (s : State) (l : Nat) : Bool :=
  match s.su.laneHead? l with
  | none => true
  | some n => s.su.rollState? n == some .reserved || s.relocating n

/-- How the tests at the start of a round come out (R135): the task ends, or a bay is found for it. -/
inductive Round
  | ends (res : TaskResult) | goes (b : Fin 8)
  deriving DecidableEq, Repr

/-- The tests at the start of a round of an UNSTACK task, in order (R135). -/
def State.roundTest (s : State) (t : TaskRec) (l : Nat) : Round :=
  if t.count = 0 ∨ t.cancel = true then .ends .done
  else if s.unstackShort l then .ends .done
  else match s.su.freeBays with
    | [] => .ends (.failed .noBay)
    | b :: _ => .goes b

/-- The task of a round that goes on: the bay is reserved for it (R135). It becomes the task's destination, and the task is
ASSIGNED until the round's pick begins, for a halted vehicle too (DESIGN CHOICE, log 55). -/
def TaskRec.inRound (t : TaskRec) (b : Fin 8) : TaskRec :=
  { t with bay := some b, dest := some (.bay b), state := .assigned }

/-- A round that goes on reserves its bay for the task (R135, R31). -/
def State.beginRound (s : State) (id : Nat) (b : Fin 8) : State :=
  (match s.su.reserveBay b id with
    | some su => s.setStore su
    | none => s).modTask id (fun t => t.inRound b)

/-- A round after the first begins at once: the vehicle drives to the lane with purpose PICK, or the task ends (R135). -/
def State.nextRound (s : State) (v : Vehicle) (t : TaskRec) (l : Nat) : State :=
  match s.roundTest t l with
  | .ends res => s.finishTask v res
  | .goes b => (s.beginRound t.id b).driveTo v (t.inRound b) (.lane l)

/-- The vehicle begins its task, or goes on with it (R129, R130, R135, R137). -/
def State.startTask (s : State) (v : Vehicle) : State :=
  match s.vehTask? v with
  | none => s
  | some t =>
    let s1 := match t.kind, t.target with
      | .charge, none => s.chooseCharger v t
      | _, some p => s.driveTo v t p
      | _, none => s.finishTask v (.failed .noRoute)
    s1.reportTask t.id

/-! ## Answers of the Lock Unit (R130) -/

/-- A waiting run is granted, or a detour: GO is ordered and the vehicle is DRIVING. -/
def State.granted (s : State) (v : Vehicle) : State :=
  match s.lu.runs[v] with
  | some g =>
    if s.fd.vehicles[v].phase = .runWait ∧ s.fd.vehicles[v].halted = false then
      ((s.order v (.go (g.run.segs.map (·.seg)) g.run.stop)).vehState v .driving).modVeh v
        (fun r => { r with phase := .driving, work := none, expected := none, workBegun := false, backDue := false })
    else s
  | none => s

/-- REFUSED(LANE) ends the task. -/
def State.laneRefused (s : State) (v : Vehicle) : State :=
  if s.fd.vehicles[v].phase = .runWait then s.finishTask v (.failed .laneRefused) else s

/-- RUN_DONE for a vehicle with a task (R130). A detour whose escape node is the node of the task's next place is a RUN_DONE at the
destination: the work begins at once, at a lane without asking the Store Unit to open it (DESIGN CHOICE, log 58). -/
def State.runDoneTask (s : State) (v : Vehicle) (t : TaskRec) (detour : Bool) : State :=
  if t.cancel then s.finishTask v t.cancelResult
  else match t.target with
    | none => s.finishTask v (.failed .noRoute)
    | some p =>
      if s.lu.placeNode p = s.fd.vehicles[v].node then (s.beginWork v t p).reportTask t.id
      else if detour then (s.driveTo v t p).reportTask t.id
      else (s.askRun v t).reportTask t.id

/-- RUN_DONE (R130, R140, R147). A FAULT vehicle stays FAULT; a LOST one, whose reports are dropped (R118), stays LOST. -/
def State.runDone (s : State) (v : Vehicle) (detour : Bool) : State :=
  if s.fd.vehicles[v].state = some .fault ∨ s.fd.vehicles[v].state = some .lost then s
  else match s.vehTask? v with
    | none => s.becomeIdle v
    | some t => s.runDoneTask v t detour

/-! ## Failures (R140, R143) -/

/-- The task of a vehicle that leaves its work ends FAILED. -/
def State.failWork (s : State) (v : Vehicle) (r : FailReason) : State :=
  match s.fd.vehicles[v].task with
  | some id => s.endTask id (.failed r) false
  | none => s

/-- The vehicle becomes FAULT with a cause: HALT is ordered, a waiting run request is withdrawn and its task ends FAILED. -/
def State.vehFault (s : State) (v : Vehicle) (c : FaultCause) (r : FailReason) : State :=
  let s1 := (s.vehState v .fault).modVeh v (fun x => { x with
    cause := some c, phase := .none, undocking := false, homeNext := false })
  ((s1.orderIf v .halt).withdrawRun v).failWork v r

/-- Position fault (R140). -/
def State.positionFault (s : State) (v : Vehicle) : State :=
  (s.vehFault v .position .positionFault).raise (srcVeh v) .positionFault

/-- The Fleet Dispatcher is told that a vehicle is LOST (R140, R155). -/
def State.vehLost (s : State) (v : Vehicle) : State :=
  if s.fd.vehicles[v].state = some .lost then s
  else
    let s1 := (s.vehState v .lost).modVeh v (fun x => { x with phase := .none, undocking := false, homeNext := false })
    (s1.withdrawRun v).failWork v .linkLost

/-- Loss of link (R155, R156): reachable is cleared, LINK_LOST is raised and the vehicle is LOST. -/
def State.linkLost (s : State) (v : Vehicle) : State :=
  (((s.setLink v { s.fl.links[v] with misses := 3 }).modVeh v (fun r => { r with reachable := false })).raise (srcVeh v)
    .linkLost).vehLost v

/-- A missed visit (R155). -/
def State.missVisit (s : State) (v : Vehicle) : State :=
  if s.missCounts v then
    let k := min 3 (s.fl.links[v].misses + 1)
    if k = 3 ∧ s.fd.vehicles[v].reachable = true then s.linkLost v
    else s.setLink v { s.fl.links[v] with misses := k }
  else s

/-- The reply window passes with no frame taken (R153, R155, R157). The visit of a vehicle removed meanwhile counts no miss, also when
it has been enrolled anew (DEDUCED, log 61). -/
def State.windowExpiry (s : State) : State :=
  match s.fl.visit with
  | none => s
  | some x => if x.removed ∨ s.fd.vehicles[x.veh].enrolled = false then s.endVisit else s.endVisit.missVisit x.veh

/-- The wake expiry is reached before the answer (R156). -/
def State.wakeExpiry (s : State) (v : Vehicle) : State :=
  if s.fl.links[v].wakeExpiry.isSome then
    (s.setLink v { s.fl.links[v] with wakeExpiry := none }).linkLost v
  else s

/-- Homing fails (R143). -/
def State.homeFailed (s : State) (v : Vehicle) : State :=
  (s.vehFault v .homeFailed .recovered).raise (srcVeh v) .homeFailed

/-! ## Echoes (R137, R139, R151, R156) -/

/-- HOME is ordered: the vehicle is DRIVING with no run (R143). -/
def State.goHome (s : State) (v : Vehicle) : State :=
  ((s.orderIf v .home).vehState v .driving).modVeh v (fun r => { r with phase := .homing, homeNext := false })

/-- The vehicle's answer to WAKE (R139, R143, R156). -/
def State.wakeAnswer (s : State) (v : Vehicle) : State :=
  let r := s.fd.vehicles[v]
  if r.state = some .waking then
    if r.homeNext then s.goHome v
    else if r.task.isSome then (s.vehState v .idle).post (.fdStart v)
    else s.becomeIdle v
  else s

/-- DOCK is echoed with motion DOCKED (R137, R128, R147). Charge due stays as it was: the end of the CHARGE task does not set
it for a barred vehicle (DEDUCED from the example of 7.6, log 39). -/
def State.docked (s : State) (v : Vehicle) : State :=
  if s.fd.vehicles[v].phase = .dockWait then
    let s1 := match s.vehTask? v with
      | some t => s.endTask t.id (if t.cancel then t.cancelResult else .done) false
      | none => s
    ((s1.vehState v .charging).modVeh v (fun r => { r with
      phase := .none, topUp := 0, chargeDue := s.fd.vehicles[v].chargeDue })).post .fdArbiter
  else s

/-- UNDOCK is echoed with motion STOPPED (R137). -/
def State.undocked (s : State) (v : Vehicle) : State :=
  let r := s.fd.vehicles[v]
  if r.state = some .charging ∧ r.undocking = true then
    if r.task.isSome then
      ((s.vehState v .idle).modVeh v (fun r => { r with undocking := false })).post (.fdStart v)
    else s.becomeIdle v
  else s

/-- The echo of an order is reported (R151). -/
def State.echo (s : State) (v : Vehicle) : Order → State
  | .wake => s.wakeAnswer v
  | .dock => s.docked v
  | .undock => s.undocked v
  | _ => s

/-! ## Events (R130, R132, R133, R134, R140, R143) -/

/-- An AT report at a lane head node. After LIFTED, PLACED or BACKOUT it is the vehicle back there, and the lane becomes
CLEARING (R23, R131); a LOST vehicle's report is dropped (R118). That of a FAULT or halted vehicle is taken so too, although
R118 and R140 keep its lane opening as it is at the failure (DEDUCED, log 26). -/
def State.backAtHead (s : State) (v : Vehicle) : State :=
  let r := s.fd.vehicles[v]
  match r.node.bind s.lu.kind? with
  | some (.laneHead l) =>
    if r.backDue = true ∧ r.state ≠ some .lost then
      (s.setStore (s.su.clearLane s.clk.tick l v)).modVeh v (fun r => { r with backDue := false })
    else s
  | _ => s

/-- The roll is aboard: the task goes on to its destination, or a cancel pending ends it (R128, R132). At a bay this
is at LIFTED itself, where no AT report follows (DEDUCED, log 24, beside R128's row 'PICKING, LIFT ordered'). -/
def State.carry (s : State) (v : Vehicle) : State :=
  match s.vehTask? v with
  | none => s.becomeIdle v
  | some t =>
    if t.cancel then s.finishTask v t.cancelResult
    else
      let t1 := { t with state := .carrying }
      let s1 := s.taskState t.id .carrying
      (match t.dest with
       | some p => s1.driveTo v t1 p
       | none => s1.finishTask v (.failed .noRoute)).reportTask t.id

/-- A placement in the store is over: the task is done, or an UNSTACK begins its next round (R133, R135). -/
def State.placeDone (s : State) (v : Vehicle) : State :=
  match s.vehTask? v with
  | none => s.becomeIdle v
  | some t =>
    match t.kind, t.source with
    | .unstack, some (.lane l) =>
      let f := fun t : TaskRec => { t with moved := t.moved + 1, count := t.count - 1 }
      (s.modTask t.id f).nextRound v (f t) l
    | _, _ => s.finishTask v .done

/-- An AT report of a vehicle on no run (R131, R132, R133): at any step of its work the vehicle may be back at its lane head, and
at the steps that wait for the report the lane work ends. -/
def State.atReport (s0 : State) (v : Vehicle) : State :=
  let s := s0.backAtHead v
  match s0.fd.vehicles[v].phase with
  | .lifted => s.carry v
  | .lowered => s.placeDone v
  | .leaving res => s.finishTask v res
  | _ => s

/-- A node named by a PASSED or AT event is forwarded to the Lock Unit (R130, R114). At RUN_DONE the task's next step, a run
request among them, is taken before the examination that the release has set off (DESIGN CHOICE, log 53). On an escape detour the
length ahead is the detour's own, and the task's route and E hold it until the new route is looked up (DESIGN CHOICE, log 37). -/
def State.progress (s : State) (v : Vehicle) (n : Node) : State :=
  let s0 := s.modVeh v (fun r => { r with node := some n })
  if s.fd.vehicles[v].state = some .lost then s0
  else
    let ahead := fun (s : State) (dm : Nat) => match s.fd.vehicles[v].task with
      | some id => (s.modTask id (fun t => { t with route := t.route.map (fun r => { r with ahead := dm }) })).reportTask id
      | none => s
    match s0.nodeReport v n with
    | (s1, .offRun) => s1.positionFault v
    | (s1, .ahead dm) => if s.lu.runs[v].isSome then ahead s1 dm else s1
    | (s1, .runDone dm detour) => (ahead s1 dm).runDone v detour

/-- A PASSED or AT event of a homing vehicle (R143). -/
def State.homePassage (s : State) (v : Vehicle) : State :=
  let s1 := s.modVeh v (fun r => { r with passages := min 32 (r.passages + 1) })
  if 32 ≤ s.fd.vehicles[v].passages + 1 then s1.homeFailed v else s1

/-- A PASSED event. -/
def State.onPassed (s : State) (v : Vehicle) (n : Option Node) : State :=
  if s.fd.vehicles[v].phase = .homing then s.homePassage v
  else match n with
    | some n => s.progress v n
    | none => s

/-- An AT event: a node report, and for a vehicle on no run the point at which its lane work ends. -/
def State.onAt (s : State) (v : Vehicle) (n : Option Node) : State :=
  if s.fd.vehicles[v].phase = .homing then s.homePassage v
  else match n with
    | none => s
    | some n =>
      let onRun := s.lu.runs[v].isSome
      let home := s.lu.nodeLocks[n] = some v
      let s1 := s.progress v n
      if onRun then s1 else if home then s1.atReport v else s1

/-- The fifth read has failed (R132): BACKOUT, the place is reported SUSPECT, the task fails; with a cancel pending it ends as
the cancel gives (R128, log 24). -/
def State.pickFailed (s : State) (v : Vehicle) (t : TaskRec) (tag : Tag) : State :=
  match s.fd.vehicles[v].work with
  | some (.lane l) => (s.backOut v (t.failResult .pickFailed)).suspectLane l tag
  | some (.bay b) => ((s.orderIf v .backout).suspectBay b tag).finishTask v (t.failResult .pickFailed)
  | _ => s

/-- The task of a pick that reads is cancelled: BACKOUT is ordered in place of the next read; the task ends at the AT report at
a lane, and at once at a bay (R128). -/
def State.cancelRead (s : State) (v : Vehicle) (t : TaskRec) : State :=
  match s.fd.vehicles[v].work with
  | some (.bay _) => (s.orderIf v .backout).finishTask v t.cancelResult
  | _ => s.backOut v t.cancelResult

/-- The roll a tag names. -/
def rollOfTag : Tag → Option Nat
  | .noRead => none
  | .roll n => some n

/-- A TAG event at the step that reads (R132). A cancel pending turns the next read into BACKOUT (R128); a read of the expected
roll still orders LIFT (DEDUCED, log 24). A halted vehicle whose TAG would be followed by LIFT or PICK_READ is WAITING with its
task, although R141 names RUN_DONE, LIFTED and PLACED (DEDUCED, log 25). -/
def State.readTag (s : State) (v : Vehicle) (t : TaskRec) (tag : Tag) : State :=
  let s1 := s.modTask t.id (fun t => { t with reads := t.reads + 1 })
  if t.kind = .check then
    match t.source with
    | some (.lane l) =>
      ((s1.checkRead l tag).modVeh v (fun r => { r with expected := rollOfTag tag })).backOut v
        (if t.cancel then t.cancelResult else .done)
    | _ => s1
  else if rollOfTag tag = s.fd.vehicles[v].expected ∧ tag ≠ .noRead then
    if s.fd.vehicles[v].halted then s1.stall v else (s1.order v .lift).vehPhase v .lifting
  else if 5 ≤ t.reads + 1 then s1.pickFailed v t tag
  else if s.fd.vehicles[v].halted then s1.stall v
  else if t.cancel then s1.cancelRead v t
  else s1.read v

/-- A TAG event. -/
def State.onTag (s : State) (v : Vehicle) (tag : Tag) : State :=
  match s.fd.vehicles[v].phase, s.vehTask? v with
  | .reading, some t => s.readTag v t tag
  | _, _ => s

/-- A lift of the expected roll is offered to the Store Unit (R17, R132); none when refused. A bay that becomes FREE is a
retry cause (R93). -/
def State.offerLift (s : State) (v : Vehicle) : Option State :=
  match s.fd.vehicles[v].work, s.fd.vehicles[v].expected with
  | some (.lane l), some n =>
    (s.su.liftLane v l n).map (fun su => (s.setStore su).modVeh v (fun r => { r with load := some n }))
  | some (.bay b), some n =>
    (s.su.liftBay v b n).map (fun su => ((s.setStore su).modVeh v (fun r => { r with load := some n })).post .fpRetry)
  | _, _ => none

/-- Whether the vehicle works at a bay. -/
def VehRec.atBay (r : VehRec) : Bool :=
  match r.work with
  | some (.bay _) => true
  | _ => false

/-- LIFTED or PLACED has come: the next AT report at a lane head is the vehicle back there (R131). -/
def State.markBack (s : State) (v : Vehicle) : State := s.modVeh v (fun r => { r with backDue := true })

/-- A LIFTED event (R132): taken or refused at the step that expects it, offered all the same at another. A refused lift ends
the task FAILED(STORE_REFUSED) with a cancel pending too, an UNSTACK's among them (DEDUCED, log 24). -/
def State.onLifted (s0 : State) (v : Vehicle) : State :=
  let s := s0.markBack v
  if s.fd.vehicles[v].phase = .lifting then
    match s.offerLift v with
    | some s1 =>
      let s2 := match s.fd.vehicles[v].task with
        | some id => s1.modTask id (fun t => { t with reads := 0 })
        | none => s1
      if s.fd.vehicles[v].atBay then s2.carry v else s2.vehPhase v .lifted
    | none =>
      if s.fd.vehicles[v].atBay then s.finishTask v (.failed .storeRefused)
      else s.leaveWith v (.failed .storeRefused)
  else (s.offerLift v).getD s

/-- A placement of the vehicle's load is offered to the Store Unit or the Stand Sequencer (R17, R66, R133, R134); the flag
tells whether it is taken. -/
def State.offerPlace (s : State) (v : Vehicle) : State × Bool :=
  let unload := fun s : State => s.modVeh v (fun r => { r with load := none })
  match s.fd.vehicles[v].load, s.fd.vehicles[v].work with
  | some n, some (.lane l) =>
    match s.su.placeLane s.clk.hall v l n with
    | some su => ((unload (s.setStore su)).placedReady n, true)
    | none => (s, false)
  | some n, some (.bay b) =>
    match s.su.placeBay s.clk.hall v s.fd.vehicles[v].task b n with
    | some su => ((unload (s.setStore su)).placedReady n, true)
    | none => (s, false)
  | some n, some (.stand st) =>
    match s.placedAt st v n with
    | (s1, true) => (unload s1, true)
    | (s1, false) => (s1, false)
  | _, _ => (s, false)

/-- The result of a refused placement (R128, R133). -/
def State.refusedPlace (s : State) (v : Vehicle) : TaskResult :=
  match s.vehTask? v with
  | some t => t.failResult .storeRefused
  | none => .failed .storeRefused

/-- A placement taken at no step that expects it (R132, R142): a vehicle that stands free without its load may be available, so
the arbiter is run (R129). -/
def State.latePlace (s : State) (v : Vehicle) : State :=
  match s.offerPlace v with
  | (s1, true) => s1.post (.fdFree v)
  | (s1, false) => s1

/-- A PLACED event (R133, R134): taken or refused at the step that expects it, offered all the same at another. -/
def State.onPlaced (s0 : State) (v : Vehicle) : State :=
  let s := s0.markBack v
  if s.fd.vehicles[v].phase = .lowering then
    match s.fd.vehicles[v].work, s.offerPlace v with
    | some (.lane _), (s1, true) => s1.vehPhase v .lowered
    | some (.lane _), (s1, false) => s1.leaveWith v (s.refusedPlace v)
    | some (.bay _), (s1, true) => s1.placeDone v
    | _, (s1, true) => s1.finishTask v .done
    | _, (s1, false) => s1.finishTask v (s.refusedPlace v)
  else s.latePlace v

/-- HOME_REACHED (R143): a node claim for the HOME node reported. -/
def State.onHomeReached (s : State) (v : Vehicle) (n : Option Node) : State :=
  if s.fd.vehicles[v].phase = .homing then
    match n with
    | none => s.homeFailed v
    | some h =>
      if s.lu.kind? h = some .home then
        match s.claimNode v h with
        | (s1, .taken) => (s1.modVeh v (fun r => { r with node := some h })).becomeIdle v
        | (s1, _) => s1.homeFailed v
      else s.homeFailed v
  else s

/-- An ERROR event (R140). A LOST vehicle stays LOST. -/
def State.onError (s : State) (v : Vehicle) (code : Nat) : State :=
  let s1 := s.modVeh v (fun r => { r with errorCode := some code })
  if s.fd.vehicles[v].state = some .lost then s1 else s1.vehFault v .vehicleError .vehicleError

/-- An event that the Fleet Link hands on (R154). -/
def State.event (s : State) (v : Vehicle) : VehEvent → State
  | .passed n => s.onPassed v n
  | .at n => s.onAt v n
  | .tag t => s.onTag v t
  | .lifted => s.onLifted v
  | .placed => s.onPlaced v
  | .homeReached n => s.onHomeReached v n
  | .error c => s.onError v c

/-! ## Status frames (R151, R153, R154) -/

/-- A status frame's fields are taken (R153): reachable is set, then the echo and the event are handed to the dispatcher. A
vehicle that becomes reachable may be available, or be given a CHARGE task (R129, R137). -/
def State.takeStatus (s : State) (v : Vehicle) (f : StatusFields) : State :=
  let r := s.fl.links[v]
  let s1 := (s.setLink v (r.takeFrame f)).modVeh v (fun x => { x with
    reachable := true
    power := if r.echoes f then (r.order.map (fun o => powerAfter o x.power)).getD x.power else x.power })
  let s0 := if s.fd.vehicles[v].reachable then s1 else s1.post (.fdFree v)
  let s2 := match r.reports f with
    | some o => s0.echo v o
    | none => s0
  match r.event f with
  | some e => s2.event v e
  | none => s2

/-- The visit in progress has had a corrupt frame in its window (R153). -/
def State.spoilVisit (s : State) (x : Visit) : State :=
  s.setLine s.fl.cycle (some { x with spoiled := true }) s.fl.sent

/-- The fields of a frame that a visit takes (R153): whole, without a gap, from the vehicle addressed. -/
def Visit.takes (x : Visit) (bytes : List Byte) (gapless : Bool) : Option StatusFields :=
  (statusFields? bytes).filter (fun f => gapless && f.veh == x.veh)

/-- A frame arrives on the Fleet Link (R153, R157). Bytes outside a reply window are discarded. Within it a frame is taken when
it is whole and from the vehicle addressed; one that is not leaves the visit to end at its window with no reply taken. A frame
taken in the visit of a vehicle removed meanwhile is not handed on (R157) and ends the visit at once, as R149 has a taken frame end
one (DESIGN CHOICE, log 61: R157 says that such a visit ends at its window). -/
def State.statusFrame (s : State) (bytes : List Byte) (gapless : Bool) : State :=
  match s.fl.visit with
  | none => s
  | some x =>
    if s.clk.tick < x.opens ∨ x.spoiled = true then s
    else match x.takes bytes gapless with
      | none => s.spoilVisit x
      | some f =>
        if x.removed ∨ s.fd.vehicles[x.veh].enrolled = false then s.endVisit else s.endVisit.takeStatus x.veh f

end Sys2Proof.Machine
end

