-- ==== Sys2Proof/Machine/Dispatcher.lean ====
section
/-! DEFINITION. The Fleet Dispatcher's queue and arbiter (R125, R129), charge, parking and sleep (R136 to R139), the Feed
Planner's requests on tasks, RESET(MOTION) (R147), and the host's requests on tasks, vehicles and the fleet. -/

namespace Sys2Proof.Machine

/-! ## Creating tasks (R125) -/

/-- The id after another, wrapping from 65,535 to 1 (R125). -/
def nextId (n : Nat) : Nat := if n < 65535 then n + 1 else 1

/-- The next id not present in the queue, looked for over `k` ids. -/
def freeId : Nat → Nat → List TaskRec → Nat
  | 0, n, _ => nextId n
  | k + 1, n, ts => if ts.any (fun t => t.id == nextId n) then freeId k (nextId n) ts else nextId n

/-- The id the next task takes. -/
def State.newId (s : State) : Nat := freeId Config.taskQueue s.fd.lastId s.fd.tasks

/-- A task with the fields every creation leaves at their first values. -/
def TaskRec.fresh (id now : Nat) (k : TaskKind) (st : TaskState) : TaskRec :=
  { id := id, kind := k, state := st, stand := none, roll := none, source := none, dest := none, deadline := none
    created := now, vehicle := none, parent := none, count := 0, moved := 0, bay := none, reads := 0, route := none
    cancel := false, fail := none, toStand := none }

/-- Whether the queue has room (R125). -/
def State.queueRoom (s : State) : Bool := decide (s.fd.tasks.length < Config.taskQueue)

/-- A creation that finds 32 tasks (R125): QUEUE_FULL is raised at the first since the queue held fewer. -/
def State.queueRefused (s : State) : State :=
  ({ s with fd := { s.fd with fullMark := true } }).raiseIf (!s.fd.fullMark) srcFleet .queueFull

/-- A task joins the queue with its id, which becomes the last id given. -/
def State.addTask (s : State) (t : TaskRec) : State :=
  { s with fd := { s.fd with tasks := s.fd.tasks ++ [t], lastId := t.id } }

/-! ## Giving tasks (R127, R129, R137, R138, R139) -/

/-- A vehicle that has been given a task is roused: a dozing or sleeping one is woken (R139, R156), a charging one is ordered
UNDOCK (R129, R137). -/
def State.rouse (s : State) (v : Vehicle) : State :=
  let r := s.fd.vehicles[v]
  match r.state with
  | some .doze | some .sleep => if r.halted then s.stall v else (s.order v .wake).vehState v .waking
  | some .charging =>
    if r.undocking || r.halted then s else (s.order v .undock).modVeh v (fun r => { r with undocking := true })
  | _ => s

/-- A vehicle that has been given a task sets to it: an IDLE one begins, another is roused. -/
def State.setTo (s : State) (v : Vehicle) : State :=
  if s.fd.vehicles[v].state = some .idle then s.post (.fdStart v) else s.rouse v

/-- A task is given its vehicle and the vehicle its task: ASSIGNED (R129). `route` is the route to the pick place. The vehicle
is set to it by `State.setTo`, or for an UNSTACK by its first round. -/
def State.assign (s : State) (id : Nat) (v : Vehicle) (route : Option TaskRoute) : State :=
  let toStand := fun t : TaskRec => match t.source.bind s.lu.placeNode, t.dest.bind s.lu.placeNode with
    | some a, some b => if t.kind = .deliver then (s.lu.lookup a b false).map (·.total) else none
    | _, _ => none
  ((s.modTask id (fun t => { t with
    vehicle := some v, state := .assigned, route := route, toStand := toStand t })).modVeh v
      (fun r => { r with task := some id })).reportTask id

/-- A MOVE that names a vehicle and has not been given to it (R127). -/
def State.waitingMove (s : State) (v : Vehicle) : Option TaskRec :=
  s.fd.tasks.find? (fun t => t.kind == .move && t.vehicle == some v && t.state == .queued)

/-- The vehicle is in a state in which it takes work, with no task. -/
def VehRec.restful (r : VehRec) : Bool :=
  r.task.isNone && (r.state == some .idle || r.state == some .doze || r.state == some .sleep)

/-- The conditions of a CHARGE task (R137). -/
def State.mayCharge (s : State) (v : Vehicle) : Bool :=
  let r := s.fd.vehicles[v]
  r.enrolled && r.chargeDue && r.reachable && !r.halted && r.restful && s.fd.fleet == .running &&
    (s.waitingMove v).isNone

/-- A CHARGE task is created ASSIGNED for a vehicle with charge due; with the queue full it waits for a slot (R137). -/
def State.createCharge (s : State) (v : Vehicle) : State :=
  if s.mayCharge v then
    if s.queueRoom then
      let id := s.newId
      let s1 := (s.addTask { TaskRec.fresh id s.clk.hall .charge .assigned with vehicle := some v }).modVeh v
        (fun r => { r with task := some id, chargeDue := false })
      s1.setTo v
    else s.queueRefused
  else s

/-- The conditions of the park delay's test (R138). -/
def State.mayPark (s : State) (v : Vehicle) : Bool :=
  let r := s.fd.vehicles[v]
  r.enrolled && r.state == some .idle && r.task.isNone && r.reachable && !r.halted && !r.chargeDue &&
    s.fd.fleet == .running && (s.waitingMove v).isNone

/-- A PARK task is created ASSIGNED to the free PARK node with the shortest route; with the queue full it waits for a slot,
and with no free node the delay starts again (R138). -/
def State.createPark (s : State) (v : Vehicle) : State :=
  match s.nearest v (s.freeNodes .park .park) with
  | none => s.modVeh v (fun r => { r with delayFrom := s.clk.hall, parkWait := false })
  | some n =>
    if s.queueRoom then
      let id := s.newId
      let s1 := (s.addTask { TaskRec.fresh id s.clk.hall .park .assigned with
        vehicle := some v, dest := some (.node n) }).modVeh v (fun r => { r with task := some id, parkWait := false })
      s1.setTo v
    else s.queueRefused.modVeh v (fun r => { r with parkWait := true })

/-- A vehicle that passes the park delay's test (R138): one already at a PARK node dozes, another is given a PARK task. -/
def State.park (s : State) (v : Vehicle) : State :=
  if s.fd.vehicles[v].node.bind s.lu.kind? = some .park then s.doze v else s.createPark v

/-- The park delay expires (R138). -/
def State.parkExpiry (s : State) (v : Vehicle) : State :=
  if s.fd.vehicles[v].state = some .idle then
    if s.mayPark v then s.park v
    else s.modVeh v (fun r => { r with delayFrom := s.clk.hall })
  else s

/-- The sleep delay expires (R139): the test is made once; a vehicle that fails it stays in DOZE. -/
def State.sleepExpiry (s : State) (v : Vehicle) : State :=
  let r := s.fd.vehicles[v]
  if r.state = some .doze then
    if r.halted = false ∧ r.load = none ∧ r.balance ≤ 0 then (s.order v .sleep).vehState v .sleep
    else s.modVeh v (fun r => { r with sleepTested := true })
  else s

/-- A vehicle stands IDLE, DOZE or SLEEP with no task: a MOVE that waits for it is given; else a CHARGE task, when due; the
arbiter runs (R127, R129, R137). -/
def State.vehFree (s : State) (v : Vehicle) : State :=
  if s.fd.vehicles[v].restful then
    match s.waitingMove v with
    | some t => (s.assign t.id v none).setTo v
    | none => (s.createCharge v).post .fdArbiter
  else s

/-- A slot has freed for a vehicle whose PARK task waits for one (R138). That a vehicle which no longer passes the delay's test
(unreachable, halted, with charge due or work of its own, or the fleet not RUNNING) waits no longer, and that one which VEHICLE
RECOVER has meanwhile put at a PARK node dozes at the slot, is the model's (DEDUCED, log 30). -/
def State.parkAgain (s : State) (v : Vehicle) : State :=
  if s.fd.vehicles[v].parkWait then
    (if s.mayPark v then s.park v else s.modVeh v (fun r => { r with parkWait := false }))
  else s

/-- A queue slot has freed (R125): CHARGE tasks, then PARK tasks that wait, in vehicle order; then the Feed Planner. -/
def State.slotFreed (s : State) : State :=
  ((List.finRange 12).foldl State.parkAgain ((List.finRange 12).foldl State.createCharge s)).post .fpSlot

/-! ## The arbiter (R129) -/

/-- A vehicle that meets every condition of R129 but that of its state. -/
def State.usable (s : State) (v : Vehicle) : Bool :=
  let r := s.fd.vehicles[v]
  r.enrolled && r.reachable && !r.halted && r.task.isNone && r.load.isNone && !r.chargeDue && !r.barred &&
    decide (r.balance < 8) && (s.waitingMove v).isNone

/-- The preference of an available vehicle's state: IDLE, then DOZE, then SLEEP; none when it is not available. -/
def State.statePref (s : State) (v : Vehicle) : Option Nat :=
  match s.fd.vehicles[v].state with
  | some .idle => some 0
  | some .doze => some 1
  | some .sleep => some 2
  | _ => none

/-- Available with the preference of its state. -/
def State.available (s : State) (v : Vehicle) : Option Nat := if s.usable v then s.statePref v else none

/-- Held in reserve: CHARGING with balance at or below 0 (R129). -/
def State.inReserve (s : State) (v : Vehicle) : Bool :=
  s.usable v && s.fd.vehicles[v].state == some .charging && decide (s.fd.vehicles[v].balance ≤ 0)

/-- The route of a vehicle to a node: length 0 when it stands there (R129), then with route number 0 and that node alone in the
node list (DESIGN CHOICE, log 48). -/
def State.routeTo (s : State) (v : Vehicle) (m : Node) : Option TaskRoute :=
  match s.fd.vehicles[v].node with
  | none => none
  | some n =>
    if n = m then some ⟨0, [n], 0⟩
    else (s.lu.lookup n m false).map (fun a => ⟨a.number, a.nodes, a.total⟩)

/-- A vehicle that could take a task: preference, route and number. -/
structure Candidate where
  pref : Nat
  route : TaskRoute
  veh : Vehicle
  deriving DecidableEq, Repr

/-- The order of preference of R129. -/
def Candidate.before (x y : Candidate) : Bool :=
  if x.pref ≠ y.pref then decide (x.pref < y.pref) else decide (x.route.ahead < y.route.ahead)

/-- The vehicle for a task whose first place is at a node: the best available one, else the best in reserve. -/
def State.pickVehicle (s : State) (m : Node) : Option Candidate :=
  let cand := fun (pref : Vehicle → Option Nat) => (List.finRange 12).filterMap (fun v =>
    match pref v, s.routeTo v m with
    | some p, some r => some (⟨p, r, v⟩ : Candidate)
    | _, _ => none)
  match firstBy? Candidate.before (cand s.available) with
  | some c => some c
  | none => firstBy? Candidate.before (cand (fun v => if s.inReserve v then some 0 else none))

/-- The kinds the arbiter matches. -/
def TaskKind.dispatched : TaskKind → Bool
  | .deliver | .relocate | .unstack | .check => true
  | _ => false

/-- Tasks by deadline, then by creation (the queue's order). -/
def byDeadline (x y : TaskRec) : Bool := !deadlineLt y.deadline x.deadline

/-- The first place of a task (R124). -/
def TaskRec.firstPlace (t : TaskRec) : Option Place := t.source.orElse (fun _ => t.dest)

/-- The arbiter examines one task. -/
def State.matchTask (s : State) (id : Nat) : State :=
  match (s.task? id).bind (fun t => t.firstPlace.bind s.lu.placeNode) with
  | none => s
  | some m =>
    match s.pickVehicle m with
    | some c => s.assign id c.veh (some c.route)
    | none => s

/-- A task that the arbiter has matched begins: the vehicle is set to it. An UNSTACK makes the tests of its first round now,
"when the vehicle is assigned" (R135), and may end there; its vehicle has been woken or ordered UNDOCK at the match all the same
(R129, R139, R156), and becomes IDLE at its answer (DEDUCED, log 42). -/
def State.beginMatch (s : State) (id : Nat) : State :=
  match s.task? id with
  | none => s
  | some t =>
    match s.taskVeh t with
    | none => s
    | some v =>
      match t.kind, t.source with
      | .unstack, some (.lane l) =>
        match s.roundTest t l with
        | .ends res => ((s.rouse v).endTask id res false).post (.fdFree v)
        | .goes b => (s.beginRound id b).setTo v
      | _, _ => s.setTo v

/-- The tasks the arbiter examines, in its order (R129). -/
def State.dispatchable (s : State) : List Nat :=
  (sortBy byDeadline (s.fd.tasks.filter (fun t => t.state == .queued && t.kind.dispatched))).map (·.id)

/-- The dispatch arbiter runs (R129): it matches the tasks one after another, then the tasks matched begin. -/
def State.arbiter (s : State) : State :=
  if s.fd.fleet = .running then s.dispatchable.foldl State.beginMatch (s.dispatchable.foldl State.matchTask s) else s

/-- The Lock Unit tells that runs may be asked (R109, R130, R137): held-back requests are made, CHARGE tasks created, each
in vehicle order (DESIGN CHOICE, log 44). -/
def State.runsMayBeAsked (s : State) : State :=
  let ask := fun (s : State) (v : Vehicle) =>
    if s.fd.vehicles[v].phase = .heldBack then
      match s.vehTask? v with
      | some t => s.askRun v t
      | none => s
    else s
  ((List.finRange 12).foldl State.createCharge ((List.finRange 12).foldl ask s)).post .fdArbiter

/-- Once in every hall second (R130, R137): vehicles that wait for a lane or a charger ask again, in vehicle order. -/
def State.retryWaits (s : State) : State :=
  (List.finRange 12).foldl (fun s v =>
    match s.fd.vehicles[v].phase, s.vehTask? v with
    | .laneWait, some t =>
      (match t.target with
       | some p => s.driveTo v t p
       | none => s).reportTask t.id
    | .chargerWait, some t => s.chooseCharger v t
    | _, _ => s) s

/-- The Stand Sequencer tells that a stand's standby arm has cleared: place begin is sent again (R65, R134), in vehicle
order (DESIGN CHOICE, log 44). A halted vehicle that waits there sends none and stays PLACING (DEDUCED, log 25). -/
def State.armCleared (s : State) (st : Stand) : State :=
  (List.finRange 12).foldl (fun s v =>
    match s.fd.vehicles[v].phase, s.vehTask? v with
    | .standWait, some t => if t.stand = some st ∧ s.fd.vehicles[v].halted = false then s.beginStand v t st else s
    | _, _ => s) s

/-! ## Charge (R136) -/

/-- The interval time reaches the charge interval (R136). -/
def VehRec.owe (r : VehRec) : VehRec :=
  ({ r with
    interval := 0
    balance := if r.balance < 8 then r.balance + 1 else r.balance
    barred := r.barred || decide (r.balance = 7) } : VehRec).markDue

/-- CHARGE INTERVAL EXPIRY (R136). -/
def State.chargeExpiry (s : State) (v : Vehicle) : State :=
  let r := s.fd.vehicles[v]
  if r.enrolled = true ∧ r.state ≠ some .charging ∧ r.state ≠ some .sleep then
    let s1 := (s.modVeh v VehRec.owe).raiseIf (decide (r.balance = 7)) (srcVeh v) .chargeBarred
    if r.restful = true ∧ 5 ≤ r.balance then s1.post (.fdFree v) else s1
  else s

/-- The top-up time reaches the top-up period (R136). -/
def VehRec.topped (r : VehRec) : VehRec :=
  { r with
    topUp := 0
    balance := if -4 < r.balance then r.balance - 1 else r.balance
    barred := r.barred && decide (8 < r.balance) }

/-- Whether the vehicle's last status frame shows the charge flag set (R136). -/
def State.drawsCharge (s : State) (v : Vehicle) : Bool :=
  match s.fl.links[v].status with
  | some x => x.charging
  | none => false

/-- TOP UP EXPIRY (R136, R137): at −4 UNDOCK is ordered; at or below 0 the vehicle is held in reserve. -/
def State.topUpExpiry (s : State) (v : Vehicle) : State :=
  let r := s.fd.vehicles[v]
  if r.state = some .charging ∧ s.drawsCharge v = true then
    let s1 := s.modVeh v VehRec.topped
    let s2 := if r.topped.balance = -4 ∧ r.undocking = false ∧ r.halted = false then
        (s1.order v .undock).modVeh v (fun r => { r with undocking := true })
      else s1
    if r.topped.balance ≤ 0 then s2.post .fdArbiter else s2
  else s

/-! ## The Feed Planner's requests on tasks (R87, R88, R91, R94, R95, R127) -/

/-- A DELIVER task is created in WAIT_ROLL (R87); none when the queue is full. -/
def State.createDeliver (s : State) (st : Stand) (deadline : Nat) : State × Option Nat :=
  if s.queueRoom then
    let id := s.newId
    (s.addTask { TaskRec.fresh id s.clk.hall .deliver .waitRoll with
      stand := some st, dest := some (.stand st), deadline := some deadline }, some id)
  else (s.queueRefused, none)

/-- A RELOCATE task is created in WAIT_DIG (R91); none when the queue is full. -/
def State.createRelocate (s : State) (roll lane : Nat) (b : Fin 8) (parent : TaskRec) : State × Option Nat :=
  if s.queueRoom then
    let id := s.newId
    (s.addTask { TaskRec.fresh id s.clk.hall .relocate .waitDig with
      roll := some roll, source := some (.lane lane), dest := some (.bay b), deadline := parent.deadline
      parent := some parent.id }, some id)
  else (s.queueRefused, none)

/-- A task becomes QUEUED and the arbiter runs (R91, R129). -/
def State.queueTask (s : State) (id : Nat) : State := (s.taskState id .queued).post .fdArbiter

/-- A removal asked by the Feed Planner takes effect only on a task that has no vehicle (R127). -/
def State.removeTask (s : State) (id : Nat) : State :=
  match s.task? id with
  | some t => if (s.taskVeh t).isNone then s.endTask id (.failed .cancelled) true else s
  | none => s

/-- A new deadline is written into a task and handed to the Lock Unit (R88, R130). -/
def State.newDeadline (s : State) (d : Nat) (id : Nat) : State :=
  match s.task? id with
  | none => s
  | some t =>
    let s1 := s.modTask id (fun t => { t with deadline := some d })
    match s.taskVeh t with
    | some v => s1.waitDeadline v (some d)
    | none => s1

/-! ## TASK CANCEL (R128) -/

/-- Cancel pending is set. -/
def State.cancelPending (s : State) (id : Nat) : State := s.modTask id (fun t => { t with cancel := true })

/-- The cancel of a task that has a vehicle; the flag tells whether the task has ended (R128). A pick that reads goes on to the
TAG under way (`State.readTag`). A halted vehicle that is DRIVING keeps that state, its run and its locks when its task ends here,
and becomes IDLE at the run's RUN_DONE (DEDUCED from R141, log 24: R128 says that it stays IDLE, and R123 lists no such DRIVING). -/
def State.cancelAt (s : State) (v : Vehicle) (t : TaskRec) : State × Bool :=
  let r := s.fd.vehicles[v]
  let ended := s.endTask t.id t.cancelResult false
  if r.halted then
    match r.state with
    | some .waiting | some .picking | some .placing | some .idle => (ended.becomeIdle v, true)
    | _ => (ended, true)
  else match r.state with
    | some .waking | some .charging => (ended, true)
    | some .waiting =>
      if r.phase = .dockWait then (s.cancelPending t.id, false)
      else if (s.lu.runs[v]).isSome then (s.cancelPending t.id, false)
      else ((s.withdrawRun v).finishTask v t.cancelResult, true)
    | some .driving => (s.cancelPending t.id, false)
    | some .picking => (s.cancelPending t.id, false)
    | some .placing =>
      if r.phase = .standWait then (s.finishTask v t.cancelResult, true) else (s.cancelPending t.id, false)
    | _ => (ended.becomeIdle v, true)

/-- The cancel of a task by id (R128); the flag tells whether it has ended. -/
def State.cancelTask (s : State) (t : TaskRec) : State × Bool :=
  if t.cancel then (s, false)
  else match s.taskVeh t with
    | none => (s.endTask t.id (.failed .cancelled) false, true)
    | some v => s.cancelAt v t

/-- TASK CANCEL (R128); the reply holds ENDED (0) or DEFERRED (1). -/
def reqTaskCancel (task : Nat) (s : State) : State × Reply :=
  match s.task? task with
  | none => (s, .code .notFound)
  | some t =>
    let res := s.cancelTask t
    (res.1, ⟨.ok, u8 (if res.2 then 0 else 1)⟩)

/-! ## TASK requests (R127) -/

/-- TASK UNSTACK (R127). BAD_FRAME comes before TABLE_FULL and then raises no QUEUE_FULL (DESIGN CHOICE, log 28: R125 and R127 give
no order). -/
def reqTaskUnstack (lane count : Nat) (deadline : Option Nat) (s : State) : State × Reply :=
  if s.su.lanes.length ≤ lane then (s, .code .badFrame)
  else if s.queueRoom then
    let n := clamp 1 24 count
    let id := s.newId
    ((s.addTask { TaskRec.fresh id s.clk.hall .unstack .queued with
      source := some (.lane lane), count := n, deadline := deadline.map satU32 }).post .fdArbiter,
      ⟨okOr (n != count), u16 id⟩)
  else (s.queueRefused, .code .tableFull)

/-- TASK CHECK (R127). BAD_FRAME comes before TABLE_FULL and then raises no QUEUE_FULL (DESIGN CHOICE, log 28: R125 and R127 give
no order). -/
def reqTaskCheck (lane : Nat) (deadline : Option Nat) (s : State) : State × Reply :=
  if s.su.lanes.length ≤ lane then (s, .code .badFrame)
  else if s.queueRoom then
    let id := s.newId
    ((s.addTask { TaskRec.fresh id s.clk.hall .check .queued with
      source := some (.lane lane), deadline := deadline.map satU32 }).post .fdArbiter, ⟨.ok, u16 id⟩)
  else (s.queueRefused, .code .tableFull)

/-- The destination a MOVE names: its drop place, or the node; none for a drop place that is no lane or bay of the part. -/
def moveDest (n : Node) : Option (Option PlaceArg) → Option Place
  | none => some (.node n)
  | some none => none
  | some (some (.lane l)) => if l < 16 then some (.lane l) else none
  | some (some (.bay b)) => (fin? 8 b).map Place.bay

/-- The node of a MOVE is one at which the vehicle can stop and, with a drop place, the node of that place (R127). -/
def State.moveNodeOk (s : State) (n : Node) (p : Place) : Bool := s.lu.holding n && s.lu.placeNode p == some n

/-- A vehicle that has a task or is named by a MOVE not yet given (R127). -/
def State.engaged (s : State) (v : Vehicle) : Bool := s.fd.vehicles[v].task.isSome || (s.waitingMove v).isSome

/-- The bay a destination reserves. -/
def Place.bay? : Place → Option (Fin 8)
  | .bay b => some b
  | _ => none

/-- TASK MOVE (R127). BAD_FRAME, NOT_FOUND, BAD_STATE and the CONFLICT of an engaged vehicle are tested in the order of R127's row,
and before TABLE_FULL, so that with a full queue they are the answer and raise no QUEUE_FULL (DESIGN CHOICE, log 28: R125 and R127
give no order). TABLE_FULL comes before the CONFLICT of a bay that refuses its reservation (DEDUCED, log 28). -/
def reqTaskMove (vehicle node : Nat) (drop : Option (Option PlaceArg)) (deadline : Option Nat) (s : State) :
    State × Reply :=
  match fin? 12 vehicle, fin? 128 node with
  | some v, some n =>
    match moveDest n drop with
    | none => (s, .code .badFrame)
    | some p =>
      if s.fd.vehicles[v].enrolled = false ∨ (s.lu.kind? n).isNone = true then (s, .code .notFound)
      else if s.moveNodeOk n p = false then (s, .code .badState)
      else if s.engaged v then (s, .code .conflict)
      else if s.queueRoom = false then (s.queueRefused, .code .tableFull)
      else
        let id := s.newId
        let t := { TaskRec.fresh id s.clk.hall .move .queued with
          dest := some p, vehicle := some v, bay := p.bay?, deadline := deadline.map satU32 }
        match p with
        | .bay b =>
          match s.su.reserveBay b id with
          | none => (s, .code .conflict)
          | some su => (((s.setStore su).addTask t).post (.fdFree v), ⟨.ok, u16 id⟩)
        | _ => ((s.addTask t).post (.fdFree v), ⟨.ok, u16 id⟩)
  | _, _ => (s, .code .badFrame)

/-! ## Vehicle requests (R141, R142, R143, R144) -/

/-- VEHICLE ENROL (R144, R148). -/
def reqVehicleEnrol (vehicle speed : Nat) (s : State) : State × Reply :=
  match fin? 12 vehicle with
  | none => (s, .code .badFrame)
  | some v =>
    let sp := clamp 300 2000 speed
    if s.fd.vehicles[v].enrolled then
      (s.modVeh v (fun r => { r with speed := sp }), .code (okOr (sp != speed)))
    else
      ((s.setVeh v { VehRec.reset with
          enrolled := true, speed := sp, state := some .fault, cause := some .unplaced, entry := some s.clk.hall
          delayFrom := s.clk.hall }).setLink v { LinkRec.reset with fresh := true }, .code (okOr (sp != speed)))

/-- The visit in progress, if it is of the vehicle, is of a vehicle removed meanwhile (R157), which it stays when the vehicle is
enrolled anew (DEDUCED, log 61). -/
def State.markVisit (s : State) (v : Vehicle) : State :=
  match s.fl.visit with
  | some x => if x.veh = v then s.setLine s.fl.cycle (some { x with removed := true }) s.fl.sent else s
  | none => s

/-- VEHICLE REMOVE (R144, R148, R157). -/
def reqVehicleRemove (vehicle : Nat) (s : State) : State × Reply :=
  match fin? 12 vehicle with
  | none => (s, .code .badFrame)
  | some v =>
    if s.fd.vehicles[v].enrolled = false then (s, .code .notFound)
    else if s.fd.vehicles[v].state = some .idle ∧ s.fd.vehicles[v].load = none then
      ((((s.withdrawRun v).releaseNode v).setVeh v VehRec.reset).setLink v LinkRec.reset |>.markVisit v, .code .ok)
    else (s, .code .badState)

/-- The step a vehicle stands at once halted: waits that ask a run, a lane or a charger are over (R141). -/
def Phase.halted : Phase → Phase
  | .runWait | .heldBack | .laneWait | .chargerWait => .stalled
  | p => p

/-- VEHICLE HALT (R141). -/
def reqVehicleHalt (vehicle : Nat) (s : State) : State × Reply :=
  match fin? 12 vehicle with
  | none => (s, .code .badFrame)
  | some v =>
    if s.fd.vehicles[v].enrolled = false then (s, .code .notFound)
    else (((s.order v .halt).modVeh v (fun r => { r with halted := true, phase := r.phase.halted })).withdrawRun v,
      .code .ok)

/-- The states in which VEHICLE RECOVER is refused (R142). -/
def VehRec.noRecover (r : VehRec) : Bool :=
  r.state == some .doze || r.state == some .sleep || r.state == some .waking || r.state == some .charging ||
    (!r.reachable && r.state != some .lost)

/-- VEHICLE RECOVER (R142). The place worked at and the roll expected are kept until the next run is granted, so a LIFTED or
PLACED that comes later is still offered to the Store Unit or the Stand Sequencer (R17, R132): a lift at a bay whose task
RECOVER failed is taken, and the roll becomes CARRIED with no reservation. -/
def reqVehicleRecover (vehicle node : Nat) (s : State) : State × Reply :=
  match fin? 12 vehicle, fin? 128 node with
  | some v, some n =>
    if s.fd.vehicles[v].enrolled = false then (s, .code .notFound)
    else if s.fd.vehicles[v].noRecover then (s, .code .badState)
    else match s.claimNode v n with
      | (_, .notFound) => (s, .code .notFound)
      | (_, .conflict) => (s, .code .conflict)
      | (s1, .taken) =>
        (((s1.failWork v .recovered).modVeh v (fun r => { r with
          node := some n, halted := false, cause := none, homeNext := false, workBegun := false
          backDue := false })).becomeIdle v, .code .ok)
  | _, _ => (s, .code .badFrame)

/-- The conditions of VEHICLE HOME (R143). -/
def State.mayHome (s : State) (v : Vehicle) : Bool :=
  let r := s.fd.vehicles[v]
  s.fd.fleet == .stopped && r.reachable && !r.halted && r.task.isNone &&
    (r.state == some .idle || r.state == some .fault || r.state == some .lost || r.state == some .doze ||
      r.state == some .sleep)

/-- VEHICLE HOME (R143). -/
def reqVehicleHome (vehicle : Nat) (s : State) : State × Reply :=
  match fin? 12 vehicle with
  | none => (s, .code .badFrame)
  | some v =>
    if s.fd.vehicles[v].enrolled = false then (s, .code .notFound)
    else if s.mayHome v then
      let s1 := (s.releaseVehicle v).modVeh v (fun r => { r with passages := 0 })
      if s.fd.vehicles[v].state = some .doze ∨ s.fd.vehicles[v].state = some .sleep then
        (((s1.order v .wake).vehState v .waking).modVeh v (fun r => { r with homeNext := true }), .code .ok)
      else (s1.goHome v, .code .ok)
    else (s, .code .badState)

/-- FLEET CONFIG (R145). -/
def reqFleetConfig (c : FleetCfgArg) (s : State) : State × Reply :=
  let h := rangeField 10 600 s.fd.holdTimeout c.holdTimeout
  let p := rangeField 10 3600 s.fd.parkDelay c.parkDelay
  let d := rangeField 60 14400 s.fd.sleepDelay c.sleepDelay
  let i := rangeField 5 60 s.fd.chargeInterval c.chargeInterval
  let t := rangeField 1 10 s.fd.topUpPeriod c.topUpPeriod
  ({ s with fd := { s.fd with
      holdTimeout := h.1, parkDelay := p.1, sleepDelay := d.1, chargeInterval := i.1, topUpPeriod := t.1 } },
    ⟨okOr (h.2 || p.2 || d.2 || i.2 || t.2), u16 h.1 ++ u16 p.1 ++ u16 d.1 ++ u16 i.1 ++ u16 t.1⟩)

/-! ## RESET(MOTION) at the fleet (R147) -/

/-- A PICKING vehicle at the reset: BACKOUT for one that reads; one that lifts, or is already leaving, is awaited. -/
def State.resetPick (s : State) (v : Vehicle) : State :=
  let r := s.fd.vehicles[v]
  if r.halted then s.becomeIdle v
  else match r.phase with
    | .reading => if r.atBay then (s.order v .backout).becomeIdle v else s.backOut v (.failed .cancelled)
    | _ => s

/-- A PLACING vehicle at the reset: at a stand BACKOUT replaces an ordered PLACE and the vehicle is IDLE, loaded; at a lane
or bay PLACED is awaited. -/
def State.resetPlace (s : State) (v : Vehicle) : State :=
  let r := s.fd.vehicles[v]
  match r.work with
  | some (.stand _) => (if r.phase = .lowering then s.orderIf v .backout else s).becomeIdle v
  | _ => if r.halted then s.becomeIdle v else s

/-- One vehicle at the reset (R147). A VEHICLE HOME that waits for the answer to WAKE is dropped: the row 'WAKING becomes
IDLE at the answer' goes before the homing of R143 (DEDUCED, log 49). Charge due is set for a barred vehicle whose task the
reset removes (R136), beside R147, which keeps it (DEDUCED, log 56). -/
def State.resetVehicle (s0 : State) (v : Vehicle) : State :=
  let s := s0.modVeh v (fun r => ({ r with
    task := none, homeNext := false, chargeDue := r.chargeDue || (r.task.isSome && r.barred) } : VehRec).markDue)
  let r := s.fd.vehicles[v]
  match r.state with
  | some .waiting => if r.phase = .dockWait ∧ r.halted = false then s else s.becomeIdle v
  | some .picking => s.resetPick v
  | some .placing => s.resetPlace v
  | _ => s

/-- RESET(MOTION) at the Fleet Dispatcher (R147): the queue is emptied, the vehicles act, in vehicle order (DESIGN
CHOICE, log 44), and MOTION_RESET is raised. -/
def State.resetFleet (s : State) : State :=
  let s1 := { s with fd := { s.fd with tasks := [], fullMark := false } }
  ((List.finRange 12).foldl State.resetVehicle (s1.raise srcFleet .motionReset)).postFirst .fdSlot

/-! ## Queries (R146) -/

def FleetState.code : FleetState → Nat
  | .stopped => 0 | .running => 1 | .halting => 2
def TaskKind.code : TaskKind → Nat
  | .deliver => 0 | .relocate => 1 | .unstack => 2 | .check => 3 | .move => 4 | .charge => 5 | .park => 6
def TaskState.code : TaskState → Nat
  | .waitRoll => 0 | .waitDig => 1 | .queued => 2 | .assigned => 3 | .picking => 4 | .carrying => 5 | .placing => 6
def VehState.code : VehState → Nat
  | .idle => 0 | .waiting => 1 | .driving => 2 | .picking => 3 | .placing => 4 | .charging => 5 | .doze => 6 | .sleep => 7
  | .waking => 8 | .fault => 9 | .lost => 10
def FaultCause.code : FaultCause → Nat
  | .unplaced => 0 | .position => 1 | .homeFailed => 2 | .vehicleError => 3
def Power.code : Power → Nat
  | .awake => 0 | .doze => 1 | .sleep => 2
def FailReason.code : FailReason → Nat
  | .pickFailed => 0 | .headChanged => 1 | .laneRefused => 2 | .standRefused => 3 | .storeRefused => 4 | .noRoute => 5
  | .runRefused => 6 | .noBay => 7 | .linkLost => 8 | .positionFault => 9 | .vehicleError => 10 | .recovered => 11
  | .cancelled => 12

/-- A place of a task. Source places are numbered LANE 0, BAY 1; destinations STAND 0, LANE 1, BAY 2, NODE 3 (R124). -/
def sourceField : Place → List Byte
  | .lane l => u8 0 ++ u8 l | .bay b => u8 1 ++ u8 b.val | .stand st => u8 2 ++ u8 st.val | .node n => u8 3 ++ u8 n.val
def destField : Place → List Byte
  | .stand st => u8 0 ++ u8 st.val | .lane l => u8 1 ++ u8 l | .bay b => u8 2 ++ u8 b.val | .node n => u8 3 ++ u8 n.val

/-- A task record in the order of R124; a field of one kind only is optional in the reply. Count, moved and reads take a byte each,
and the route, one row of R124, one presence byte (DEDUCED, log 19). -/
def TaskRec.field (t : TaskRec) : List Byte :=
  u16 t.id ++ u8 t.kind.code ++ u8 t.state.code ++ optField (fun st : Stand => u8 st.val) t.stand ++ optField u32 t.roll ++
  optField sourceField t.source ++ optField destField t.dest ++ optField u32 t.deadline ++ u32 t.created ++
  optField (fun v : Vehicle => u8 v.val) t.vehicle ++ optField u16 t.parent ++
  optField u8 (if t.kind = .unstack then some t.count else none) ++
  optField u8 (if t.kind = .unstack then some t.moved else none) ++ optField (fun b : Fin 8 => u8 b.val) t.bay ++
  u8 t.reads ++
  optField (fun r : TaskRoute => u8 r.number.val ++ listField (fun n : Node => u8 n.val) r.nodes ++ u32 r.ahead) t.route ++
  flag t.cancel ++ optField (fun r : FailReason => u8 r.code) t.fail

/-- How a task ended: DONE 0, or FAILED 1 with its fail reason. -/
def TaskResult.field : TaskResult → List Byte
  | .done => u8 0 | .failed r => u8 1 ++ u8 r.code

/-- A last task outcome (R122), with the tag read (R132) and the moved count (R135) after its result, each with a presence byte;
the moved count takes a byte (DEDUCED, log 19). -/
def TaskOutcome.field (o : TaskOutcome) : List Byte :=
  u16 o.id ++ u8 o.kind.code ++ o.result.field ++ optField Tag.field o.tag ++ optField u8 o.moved

/-- A vehicle record in the order of R122. Home passages and last error code take a byte each (DEDUCED, log 19). -/
def VehRec.field (r : VehRec) : List Byte :=
  flag r.enrolled ++ u16 r.speed ++ optField (fun x : VehState => u8 x.code) r.state ++
  optField (fun x : FaultCause => u8 x.code) r.cause ++ flag r.halted ++ optField (fun n : Node => u8 n.val) r.node ++
  optField u32 r.load ++ optField u16 r.task ++ s8 r.balance ++ u32 r.interval ++ u32 r.topUp ++ flag r.chargeDue ++
  flag r.barred ++ u8 r.power.code ++ flag r.reachable ++ optField u32 r.entry ++ u8 r.passages ++
  optField TaskOutcome.field r.outcome ++ optField u8 r.errorCode

/-- The locks a vehicle holds: segments, nodes, lane opened and door passages (R146), the lane as an optional field and the others
as lists (DEDUCED, log 19). -/
def State.locksField (s : State) (v : Vehicle) : List Byte :=
  listField (fun g : Seg => u8 g.val) ((List.finRange 192).filter (fun g => s.lu.segLocks[g] == some v)) ++
  listField (fun n : Node => u8 n.val) ((List.finRange 128).filter (fun n => s.lu.nodeLocks[n] == some v)) ++
  optField u8 ((List.range s.su.lanes.length).find? (fun l => (s.su.lanes[l]?.map (·.motion)) == some (.opened v))) ++
  listField (fun d : Fin 2 => u8 d.val) ((List.finRange 2).filter (fun d => s.su.doors[d].passages.contains v))

/-- The last status frame's motion, node and load sensor (R146). VEHICLE QUERY gives them one presence byte, since R148 has the last
status optional as a whole, and the node its own (DEDUCED, log 19). -/
def LastStatus.field (x : LastStatus) : List Byte :=
  u8 x.motion.code ++ optField (fun n : Node => u8 n.val) x.node ++ flag x.loaded

/-- FLEET QUERY, the fetch of the FLEET source (R146, R159). The cycle number and the number of tasks take a
byte each, and a vehicle's state and task carry a presence byte each (DEDUCED, log 19: R122 has each optional apart). -/
def reqFleetQuery (s : State) : State × Reply :=
  (s.fetch srcFleet,
    ⟨.ok, u8 s.fd.fleet.code ++ u16 s.fd.holdTimeout ++ u16 s.fd.parkDelay ++ u16 s.fd.sleepDelay ++
      u16 s.fd.chargeInterval ++ u16 s.fd.topUpPeriod ++ u8 s.fd.tasks.length ++
      (s.fd.vehicles.toList.map (fun r => flag r.enrolled ++ optField (fun x : VehState => u8 x.code) r.state ++
        optField u16 r.task)).flatten ++ u8 s.fl.cycle ++ s.noticeField srcFleet⟩)

/-- VEHICLE QUERY, the fetch of the vehicle's source (R146, R159); CLEAR GAPS sets sequence gaps to 0 after the reply is
formed. -/
def reqVehicleQuery (vehicle : Nat) (clearGaps : Option Bool) (s : State) : State × Reply :=
  match fin? 12 vehicle, clearGaps with
  | some v, some c =>
    let s1 := if c then s.setLink v { s.fl.links[v] with gaps := 0 } else s
    (s1.fetch (srcVeh v),
      ⟨.ok, s.fd.vehicles[v].field ++ flag s.fd.vehicles[v].halted ++ s.locksField v ++
        optField LastStatus.field s.fl.links[v].status ++ s.linkField v ++ s.noticeField (srcVeh v)⟩)
  | _, _ => (s, .code .badFrame)

/-- The longest prefix of the task records whose bytes fit into what is left of a frame (R187). -/
def fitting : Nat → List (List Byte) → List Byte
  | _, [] => []
  | room, x :: xs => if x.length ≤ room then x ++ fitting (room - x.length) xs else []

/-- TASK QUERY (R146, R187). Kind, tag, result code and the task count take 4 of the 1,024 bytes. A starting position above 31 is
refused with BAD_FRAME; position and task count take a byte each (DEDUCED, log 19). -/
def reqTaskQuery (form : Option TaskForm) (s : State) : State × Reply :=
  match form with
  | none => (s, .code .badFrame)
  | some (.one id) =>
    match s.task? id with
    | some t => (s, ⟨.ok, t.field⟩)
    | none => (s, .code .notFound)
  | some (.all pos) =>
    if 31 < pos then (s, .code .badFrame)
    else (s, ⟨.ok, u8 s.fd.tasks.length ++ fitting (Config.maxFrame - 4) ((s.fd.tasks.drop pos).map TaskRec.field)⟩)

end Sys2Proof.Machine
end

