-- ==== Sys2Proof/Machine/Feed.lean ====
section
/-! DEFINITION. The Feed Planner (chapter 5): creation of deliveries, roll choice, digs, the ends of deliveries, slack, SLOW
and STOP; and the queries that show its fields, STAND QUERY and PRESS QUERY. -/

namespace Sys2Proof.Machine

/-! ## Slack and SLOW (R97, R98, R99) -/

/-- Seconds to drive a route length in dm at a speed in mm/s (R97). -/
def driveSeconds (dm speed : Nat) : Nat := dm * 100 / speed

/-- The delivery estimate E (R97). -/
def FeedPlanner.estimateOf (fp : FeedPlanner) (d : Delivery) : Option Nat :=
  match d.task, d.state, d.figures with
  | none, _, _ => none
  | some _, some .assigned, some f | some _, some .picking, some f =>
    match f.toStand with
    | some dm => some (driveSeconds f.ahead f.speed + fp.pickOverhead + driveSeconds dm f.speed + fp.placeOverhead)
    | none => some fp.estimate
  | some _, some .carrying, some f => some (driveSeconds f.ahead f.speed + fp.placeOverhead)
  | some _, some .placing, _ => some fp.placeOverhead
  | some _, _, _ => some fp.estimate

/-- Slack of a stand with T, by its state (R98); absent when not counted. `t` is T, `a` the accel lead, `p` the prep time. -/
def Delivery.slackFor (d : Delivery) (now estimate : Nat) (t a p : Int) : Option Int :=
  match d.facts.state with
  | .single | .butt =>
    if d.task.isSome then some (t - a - p - (d.estimate.getD estimate))
    else if d.facts.auto && d.facts.assignment.isSome then some (t - a - p - estimate)
    else none
  | .loading => some (t - a - p)
  | .preparing => some (t - a - max 0 (p - ((now - d.facts.prepStart.getD now : Nat) : Int)))
  | .armed => if d.facts.auto then none else some (t - a)
  | .fault => some (t - a)
  | .empty | .accelerating | .matched | .pasting | .runout => none

/-- The slack of a stand (R98): counted only with a running roll, which has a T, and with the press RUN input high. -/
def State.slackOf (s : State) (st : Stand) (d : Delivery) : Option Int :=
  match d.time with
  | some t =>
    if d.facts.present && s.runHigh st then
      d.slackFor s.clk.hall s.fp.estimate t s.pju.stand[st].force.lead s.ssq[st].cfg.prepTime
    else none
  | none => none

/-- Counted slacks of the present stands of a press. -/
def State.slacks (s : State) (p : Press) : List Int :=
  (standsOf p).filterMap (fun st => if s.fp.stands[st].facts.present then s.fp.stands[st].slack else none)

/-- The SLOW order of a press is evaluated (R99). -/
def State.evalSlow (s : State) (p : Press) : State :=
  let o := s.fp.presses[p]
  let xs := s.slacks p
  if o.slow then
    if xs.all (fun x => decide ((s.fp.margin : Int) ≤ x)) then (s.setOrders p { o with slow := false }).raise (srcPress p) .slowOff
    else s
  else if xs.any (fun x => decide (x < 0)) then (s.setOrders p { o with slow := true }).raise (srcPress p) .slowOn
  else s

/-- The slack of a stand is computed, and the SLOW order of its press evaluated (R98, R99). An absent stand has neither. -/
def State.computeSlack (s : State) (st : Stand) : State :=
  let d := s.fp.stands[st]
  if d.facts.present then
    let d1 := { d with estimate := s.fp.estimateOf d }
    (s.setDelivery st { d1 with slack := s.slackOf st d1 }).evalSlow (pressOf st)
  else s

/-- Once in every hall second, every present stand (R98), in ascending order (DESIGN CHOICE, log 44). -/
def State.slackSecond (s : State) : State := (List.finRange 24).foldl State.computeSlack s

/-! ## STOP (R100) -/

/-- A stand of the press other than `st` is in RUNOUT, as the Feed Planner holds it. -/
def State.otherRunout (s : State) (st : Stand) : Bool :=
  (standsOf (pressOf st)).any (fun k => k != st && s.fp.stands[k].facts.state == .runout)

/-- The STOP order follows a stand's hand-off (R100). -/
def State.followStop (s : State) (st : Stand) (before after : StandState) : State :=
  let p := pressOf st
  let o := s.fp.presses[p]
  if before ≠ .runout ∧ after = .runout then
    (s.setOrders p { o with stop := true, release := false }).raiseIf (!o.stop) (srcPress p) .stopOn
  else if before = .runout ∧ after ≠ .runout ∧ s.otherRunout st = false then
    (s.setOrders p { o with stop := false, release := false }).raiseIf o.stop (srcPress p) .stopOff
  else s

/-! ## Starved reasons (R92) -/

/-- Two starved reasons are the same value, an earliest ready time aside. -/
def Starved.same : Starved → Starved → Bool
  | .conditioning _, .conditioning _ => true
  | .buried, .buried => true
  | .nothing, .nothing => true
  | .queueFull, .queueFull => true
  | _, _ => false

/-- A starved reason is set; STARVED is raised when it was absent or another (R92). -/
def State.starve (s : State) (st : Stand) (x : Starved) : State :=
  let same := match s.fp.stands[st].starved with
    | some y => y.same x
    | none => false
  (s.modDelivery st (fun d => { d with starved := some x })).raiseIf (!same) (srcStand st) .starved

/-! ## Roll choice (R89, R90, R91, R92) -/

/-- A roll would be a candidate if it were READY (R89, R92). -/
def State.matching (s : State) (asg : Nat × WidthClass) (r : RollRec) : Bool :=
  (r.state == .conditioning || r.state == .ready) && r.mark == .normal && r.grade == asg.1 && r.width == asg.2 &&
    (match r.loc with
     | .bay b => !s.su.bays[b].suspect
     | .lane l _ => (match s.su.lanes[l]? with
       | some x => !x.blocked && !x.suspect
       | none => false)
     | _ => false) && !s.relocating r.num

/-- Rank, arrival and place number by which candidates are ordered (R89); none for a roll deeper than 2. -/
def RollRec.rank (r : RollRec) : Option (Nat × Nat × Nat) :=
  match r.loc with
  | .bay b => some (1, r.arrival, b.val)
  | .lane l d => if d ≤ 2 then some (d + 2, r.arrival, l) else none
  | _ => none

/-- Lexicographic order of ranks. -/
def rankLe (x y : Nat × Nat × Nat) : Bool :=
  if x.1 ≠ y.1 then decide (x.1 < y.1)
  else if x.2.1 ≠ y.2.1 then decide (x.2.1 < y.2.1)
  else decide (x.2.2 ≤ y.2.2)

/-- Candidates in rank order (R89). -/
def State.candidates (s : State) (asg : Nat × WidthClass) : List RollRec :=
  (sortBy (fun x y : (Nat × Nat × Nat) × RollRec => rankLe x.1 y.1)
    ((s.su.rolls.filter (fun r => r.state == .ready && s.matching asg r)).filterMap
      (fun r => r.rank.map (fun k => (k, r))))).map (·.2)

/-- A roll in front may be relocated (R90). -/
def State.movable (s : State) (n : Nat) : Bool :=
  match s.roll? n with
  | some r => (r.state == .conditioning || r.state == .ready) && r.reservation.isNone && !s.relocating n
  | none => false

/-- Eligibility of a candidate (R90). -/
def State.eligible (s : State) (r : RollRec) : Bool :=
  match r.loc with
  | .lane _ 0 => true
  | .lane l d =>
    decide (d ≤ s.su.freeBays.length) && decide (s.fd.tasks.length + d ≤ Config.taskQueue) &&
      ((s.su.laneList l).take d).all s.movable
  | _ => true

/-- The starved reason of a choice that finds no eligible candidate (R92). -/
def State.starvedReason (s : State) (asg : Option (Nat × WidthClass)) : Starved :=
  match asg with
  | none => .nothing
  | some x =>
    let ms := s.su.rolls.filter (s.matching x)
    match (ms.filter (fun r => r.state == .conditioning)).map (fun r : RollRec => r.ready) with
    | t :: ts => .conditioning (ts.foldl min t)
    | [] => if ms.isEmpty then .nothing else .buried

/-- The place a roll is picked from. -/
def Loc.place? : Loc → Option Place
  | .lane l _ => some (.lane l)
  | .bay b => some (.bay b)
  | _ => Option.none

/-- The delivery task is given its roll and its source place in a new state, at the dispatcher and in the record. -/
def State.supply (s : State) (st : Stand) (id : Nat) (r : RollRec) (ts : TaskState) (dig : List Nat) : State :=
  ((s.modTask id (fun t => { t with roll := some r.num, source := r.loc.place?, state := ts })).modDelivery st
    (fun d => { d with roll := some r.num, state := some ts, dig := dig, starved := none })).reportTask id

/-- The RELOCATE tasks of a dig are created and their bays reserved (R91 step 3): rolls in front, head first, with the
lowest available bays. None when a creation or a reservation is refused. -/
def State.digTasks (s : State) (lane : Nat) (parent : TaskRec) : List (Nat × Fin 8) → Option (State × List Nat)
  | [] => some (s, [])
  | (n, b) :: rest =>
    match s.createRelocate n lane b parent with
    | (_, none) => none
    | (s1, some id) =>
      match s1.su.reserveBay b id with
      | none => none
      | some su =>
        match (s1.setStore su).digTasks lane parent rest with
        | some (s2, ids) => some (s2, id :: ids)
        | none => none

/-- The chosen roll is taken (R91); none when something is refused. -/
def State.takeChoice (s : State) (st : Stand) (t : TaskRec) (r : RollRec) : Option State :=
  match s.su.reserveRoll r.num st with
  | none => none
  | some su =>
    let s1 := s.setStore su
    match r.loc with
    | .lane l (d + 1) =>
      match s1.digTasks l t (((s1.su.laneList l).take (d + 1)).zip s1.su.freeBays) with
      | some (s2, id :: ids) => some ((s2.queueTask id).supply st t.id r .waitDig (id :: ids))
      | _ => none
    | _ => some ((s1.supply st t.id r .queued []).post .fdArbiter)

/-- The roll choice for a stand's delivery in WAIT_ROLL (R89 to R92). After a refusal the reservations and tasks of this
choice are undone and the choice is made again. -/
def State.choose (s : State) (st : Stand) : State :=
  let d := s.fp.stands[st]
  match d.task.bind s.task? with
  | none => s
  | some t =>
    if t.state = .waitRoll then
      match d.facts.assignment.bind (fun x => (s.candidates x).find? s.eligible) with
      | some r => (s.takeChoice st t r).getD (s.post (.fpChoose st))
      | none => s.starve st (s.starvedReason d.facts.assignment)
    else s

/-- A retry cause (R93): every delivery in WAIT_ROLL chooses, by deadline and then by creation. -/
def State.retryAll (s : State) : State :=
  ((sortBy byDeadline (s.fd.tasks.filter (fun t => t.kind == .deliver && t.state == .waitRoll))).map (·.id)).foldl
    (fun s id => match (List.finRange 24).find? (fun st => s.fp.stands[st].task == some id) with
      | some st => s.choose st
      | none => s) s

/-! ## Creation (R87, R88) -/

/-- The stand states in which a delivery is created (R87). -/
def StandFacts.wants (f : StandFacts) : Bool :=
  match f.state with
  | .empty | .single | .butt => true
  | .runout => !f.standbyReady && f.loading.isNone
  | _ => false

/-- The creation test (R87). -/
def Delivery.creates (d : Delivery) : Bool :=
  d.facts.present && d.facts.auto && d.facts.assignment.isSome && !d.hold && d.facts.wants && d.task.isNone

/-- The deadline of a new delivery (R88): as last handed with a running roll, else the hall time. -/
def State.deliveryDeadlineOf (s : State) (d : Delivery) : Nat :=
  if d.time.isSome then d.deadline.getD s.clk.hall else s.clk.hall

/-- The creation test is made; when it passes, the delivery is created and its roll chosen at once (R87). -/
def State.createTest (s : State) (st : Stand) : State :=
  let d := s.fp.stands[st]
  if d.creates then
    match s.createDeliver st (s.deliveryDeadlineOf d) with
    | (s1, some id) =>
      (s1.modDelivery st (fun d => { d with
        task := some id, state := some .waitRoll, roll := none, starved := none })).choose st
    | (s1, none) => s1.starve st .queueFull
  else s

/-- A freed queue slot (R93): the waiting choices are retried, then the stands starved by QUEUE_FULL make their creation
test, by deadline and then by stand number. That the choices come before the creation tests is the model's (DESIGN CHOICE, log 50).
A creation is no report of R98, so E and slack of a delivery created here follow at the next computation (DEDUCED, log 46). -/
def State.slotOffered (s : State) : State :=
  let s1 := s.retryAll
  let full := (List.finRange 24).filter (fun st => s1.fp.stands[st].starved == some .queueFull)
  let le := fun x y : Stand =>
    decide (s1.deliveryDeadlineOf s1.fp.stands[x] ≤ s1.deliveryDeadlineOf s1.fp.stands[y])
  (sortBy le full).foldl State.createTest s1

/-! ## Ends of deliveries (R94, R95, R96) -/

/-- The delivery record with no delivery (R95). -/
def Delivery.ended (d : Delivery) : Delivery :=
  { d with task := none, state := none, roll := none, dig := [], estimate := none, figures := none, starved := none }

/-- A RELOCATE task of a dig that is given up (R94, R95): removed without a vehicle, else its parent is cleared and it
runs on. R94 does not say what one with a vehicle does at a dig failure: it does what R95 step 2 says (DEDUCED, log 47). -/
def State.dropDig (s : State) (id : Nat) : State :=
  match s.task? id with
  | some t =>
    if (s.taskVeh t).isNone then s.removeTask id else s.modTask id (fun t => { t with parent := none })
  | none => s

/-- The reservation of the delivery's roll is cleared at the Store Unit (R95 step 1). -/
def State.freeRoll (s : State) (st : Stand) : State :=
  match s.fp.stands[st].roll with
  | some n => s.clearReservation n st
  | none => s

/-- A failure is recorded and DELIVERY_FAILED raised (R94, R95). -/
def State.recordFailure (s : State) (st : Stand) (c : FailCause) (id : Nat) (roll : Option Nat) : State :=
  (s.modDelivery st (fun d => { d with lastFail := some ⟨c, s.clk.hall, id, roll⟩ })).raise (srcStand st) .deliveryFailed

/-- Steps 1 to 4 of a delivery failure (R95). -/
def State.failDelivery (s : State) (st : Stand) (c : FailCause) : State :=
  let d := s.fp.stands[st]
  let s1 := d.dig.foldl State.dropDig (s.freeRoll st)
  (s1.modDelivery st Delivery.ended).recordFailure st c (d.task.getD 0) d.roll

/-- The creation test that follows an end of a stand's delivery (R95 step 5), and its slack. -/
def State.createNext (s : State) (st : Stand) : State := (s.createTest st).computeSlack st

/-- The reservation of a stand's delivery was cancelled in the store (R96): a failure, the task is cancelled, and the creation
test follows, behind the slots freed here (R125). The cancel comes first and slack is computed then too (DEDUCED, log 40). -/
def State.reservationLost (s : State) (st : Stand) (n : Nat) : State :=
  let d := s.fp.stands[st]
  match d.task with
  | none => s
  | some id =>
    if d.roll = some n then
      let s1 := (s.postFirst (.fpCreate st)).failDelivery st .reservationLost
      match s1.task? id with
      | some t => (s1.cancelTask t).1
      | none => s1
    else s

/-- The end of the linked DELIVER task (R95); the creation test follows, behind the slots freed here (R125). -/
def State.deliverEnded (s : State) (st : Stand) (res : TaskResult) : State :=
  let s1 := s.postFirst (.fpCreate st)
  match res with
  | .done => s1.modDelivery st Delivery.ended
  | .failed r => s1.failDelivery st (.task r)

/-- The delivery returns to WAIT_ROLL with no roll (R94); its choice follows at once. -/
def State.backToWaitRoll (s : State) (st : Stand) (id : Nat) : State :=
  (((s.modTask id (fun t => { t with roll := none, source := none, state := .waitRoll })).modDelivery st
    (fun d => { d with roll := none, dig := [], state := some .waitRoll })).reportTask id)

/-- A dig fails (R94). The failure is recorded under the delivery's own task and the roll chosen (DEDUCED, log 41). The choice
follows, behind the slots freed here (R125). -/
def State.digFailed (s : State) (st : Stand) (id : Nat) : State :=
  let d := s.fp.stands[st]
  let s1 := d.dig.foldl State.dropDig (s.postFirst (.fpChoose st))
  ((s1.freeRoll st).recordFailure st .digFailed id d.roll).backToWaitRoll st id

/-- The chosen roll stands at depth 0 of its lane. -/
def State.atHead (s : State) (n : Option Nat) : Bool :=
  match n.bind s.roll? with
  | some r => (match r.loc with
    | .lane _ 0 => true
    | _ => false)
  | none => false

/-- A RELOCATE task of a dig is done (R94). -/
def State.digDone (s : State) (st : Stand) (id : Nat) (rest : List Nat) : State :=
  match rest with
  | next :: _ => (s.modDelivery st (fun d => { d with dig := rest })).queueTask next
  | [] =>
    if s.atHead s.fp.stands[st].roll then
      ((s.modDelivery st (fun d => { d with dig := [], state := some .queued })).queueTask id).reportTask id
    else ((s.freeRoll st).backToWaitRoll st id).choose st

/-- The end of a RELOCATE task of a stand's dig (R94). -/
def State.relocateEnded (s : State) (st : Stand) (x : EndedTask) : State :=
  match s.fp.stands[st].task with
  | none => s
  | some id =>
    match x.result with
    | .done => s.digDone st id (s.fp.stands[st].dig.filter (· != x.id))
    | .failed _ => s.digFailed st id

/-- The end of a task is reported to the Feed Planner (R94, R95); one that is no longer linked is not acted on. -/
def State.taskEnded (s : State) (x : EndedTask) : State :=
  if x.kind = .deliver then
    match (List.finRange 24).find? (fun st => s.fp.stands[st].task == some x.id) with
    | some st => s.deliverEnded st x.result
    | none => s
  else
    match (List.finRange 24).find? (fun st => s.fp.stands[st].dig.contains x.id) with
    | some st => s.relocateEnded st x
    | none => s

/-! ## Hand-offs to the Feed Planner -/

/-- State and figures of a delivery task are reported (R95, R97). -/
def State.taskReported (s : State) (id : Nat) (ts : TaskState) (f : Option Figures) : State :=
  match (List.finRange 24).find? (fun st => s.fp.stands[st].task == some id) with
  | some st => (s.modDelivery st (fun d => { d with state := some ts, figures := f })).computeSlack st
  | none => s

/-- T and the deadline of a stand are handed (R52, R53, R88). -/
def State.timeHanded (s : State) (st : Stand) (t d : Nat) : State :=
  let s1 := s.modDelivery st (fun x => { x with time := some t, deadline := some d })
  match s1.fp.stands[st].task with
  | some id => (id :: s1.fp.stands[st].dig).foldl (fun s k => s.newDeadline d k) s1
  | none => s1

/-- The facts of a stand are handed (R86, R87, R93, R98, R100). -/
def State.standHanded (s : State) (st : Stand) (f : StandFacts) (autoOn fresh : Bool) : State :=
  let d := s.fp.stands[st]
  let d1 := if fresh then { Delivery.reset with facts := f }
    else { d with facts := f, hold := d.hold && !autoOn }
  let s1 := (s.setDelivery st d1).followStop st d.facts.state f.state
  let s2 := if f.assignment ≠ d.facts.assignment then s1.choose st else s1
  (s2.createTest st).computeSlack st

/-! ## RESET(MOTION) and requests (R100, R101, R103) -/

/-- RESET(MOTION) at the Feed Planner (R103). -/
def FeedPlanner.resetMotion (fp : FeedPlanner) : FeedPlanner :=
  { fp with stands := fp.stands.map (fun d => { d.ended with hold := true }) }

/-- PRESS RELEASE (R100). -/
def reqPressRelease (press : Nat) (s : State) : State × Reply :=
  match fin? 4 press with
  | none => (s, .code .badFrame)
  | some p =>
    let o := s.fp.presses[p]
    let s1 := if o.stop then (s.setOrders p { o with stop := false, release := true }).raise (srcPress p) .stopOff else s
    (s1, ⟨.ok, flag o.slow ++ flag false⟩)

/-- PRESS FEED CONFIG (R101). -/
def reqPressFeedConfig (estimate margin pickOverhead placeOverhead : Option Nat) (s : State) : State × Reply :=
  let d := rangeField 30 1800 s.fp.estimate estimate
  let m := rangeField 10 600 s.fp.margin margin
  let pk := rangeField 10 300 s.fp.pickOverhead pickOverhead
  let pl := rangeField 10 300 s.fp.placeOverhead placeOverhead
  ({ s with fp := { s.fp with estimate := d.1, margin := m.1, pickOverhead := pk.1, placeOverhead := pl.1 } },
    ⟨okOr (d.2 || m.2 || pk.2 || pl.2), u16 d.1 ++ u16 m.1 ++ u16 pk.1 ++ u16 pl.1⟩)

/-! ## STAND QUERY and PRESS QUERY (R58, R83, R102, R175) -/

def TimerPurpose.code : TimerPurpose → Nat
  | .accel => 0 | .paste => 1 | .eject => 2
def SpliceFault.code : SpliceFault → Nat
  | .accelTimeout => 0 | .speedMismatch => 1 | .noConfirm => 2
def Starved.code : Starved → Nat
  | .conditioning _ => 0 | .buried => 1 | .nothing => 2 | .queueFull => 3

/-- The earliest ready time, present with CONDITIONING (R86). -/
def Starved.earliest : Starved → Option Nat
  | .conditioning t => some t
  | _ => none

/-- Causes of a delivery failure: the fail reasons of R126, then DIG_FAILED and RESERVATION_LOST (log 17). -/
def FailCause.code : FailCause → Nat
  | .task r => r.code | .digFailed => 13 | .reservationLost => 14

def LastFailure.field (x : LastFailure) : List Byte := u8 x.cause.code ++ u32 x.time ++ u16 x.task ++ optField u32 x.roll

/-- R, Rmin and A (R51). -/
def Reserves.field (r : Reserves) : List Byte := u16 r.reserve ++ u16 r.minReserve ++ u16 r.lead

/-- The common part of STAND QUERY (R83). The pending R, Rmin and A, one row of R43, carry one presence byte together (DEDUCED,
log 19). -/
def State.standCommon (s : State) (st : Stand) : List Byte :=
  let r := s.ssq[st]
  flag r.present ++ u8 r.state.code ++ flag r.auto ++
  optField (fun x : Nat × WidthClass => u8 x.1 ++ u8 (WidthClass.code x.2)) r.assignment ++ u16 r.watch.bits ++ r.cfg.field ++
  s.pju.stand[st].force.field ++ optField Reserves.field s.pju.stand[st].pend ++ optField u32 r.armA ++ optField u32 r.armB ++
  optField (fun x => u8 (Arm.code x)) r.running ++ flag r.manual ++ optField (fun x : SpliceFault => u8 x.code) r.lastFault

/-- The running part (R58, R83). T, which its record holds as optional, has a presence byte (DEDUCED, log 19). -/
def State.standRunning (s : State) (st : Stand) (n : Nat) : List Byte :=
  let p := s.pju.stand[st]
  u32 n ++ optField u16 p.mean? ++ u16 (s.runningLength st / 1000) ++ optField u16 p.time ++
  flag (((s.roll? n).map (·.measured)).getD false) ++ flag p.indexFault

/-- The standby part (R83). The prep start time, which its record holds as optional, has a presence byte (DEDUCED, log 19). -/
def State.standStandby (s : State) (st : Stand) (n : Nat) : List Byte :=
  let r := s.ssq[st]
  u32 n ++ optField u32 r.prepStart ++ u32 (s.since (r.prepStart.getD s.clk.hall)) ++ optField u16 s.pju.stand[st].lastW

/-- The butt part (R83). The butt length, which a BUTT roll always has, has no presence byte (DEDUCED, log 19). -/
def State.standButt (s : State) (st : Stand) (n : Nat) : List Byte :=
  u32 n ++ u16 (((s.roll? n).bind (·.butt)).getD 0) ++ flag s.ssq[st].ejectFault

/-- The fault part (R83). -/
def FaultPart.field (f : FaultPart) : List Byte := u32 f.entry ++ u32 f.copies ++ flag f.lateConfirm

/-- The delivery part is present (R102). -/
def Delivery.shown (d : Delivery) : Bool :=
  d.task.isSome || d.starved.isSome || d.lastFail.isSome || d.hold || d.slack.isSome

/-- The delivery part (R102). R102 writes one dash for each of two pairs. Task id and task state carry one presence byte together,
since R86 has the state present with the task (DEDUCED, log 19); starved reason and earliest ready time carry one each, the time's
set with CONDITIONING alone, so two 0 bytes without a starved reason (DESIGN CHOICE, log 19). -/
def State.standDelivery (s : State) (st : Stand) : List Byte :=
  let d := s.fp.stands[st]
  let task := match d.task, d.state with
    | some id, some ts => some (id, ts)
    | _, _ => none
  optField (fun x : Nat × TaskState => u16 x.1 ++ u8 x.2.code) task ++ optField u32 d.roll ++
  optField u32 ((d.task.bind s.task?).bind (·.deadline)) ++ listField u16 d.dig ++
  optField (fun x : Starved => u8 x.code) d.starved ++ optField u32 (d.starved.bind Starved.earliest) ++ flag d.hold ++
  optField LastFailure.field d.lastFail ++ optField u32 d.estimate ++ optField s32 d.slack

/-- A part of STAND QUERY: absent when its condition does not hold (R83). -/
def part (present : Bool) (f : List Byte) : List Byte := if present then u8 1 ++ f else u8 0

/-- What STAND QUERY returns of a stand (R83). -/
def State.standField (s : State) (st : Stand) : List Byte :=
  let r := s.ssq[st]
  let standby := if s.standbyHolds st .standby then r.standbyRoll? else none
  let butt := if s.standbyHolds st .butt then r.standbyRoll? else none
  s.standCommon st ++ optField (fun v : Vehicle => u8 v.val) r.loading ++
  optField (s.standRunning st) r.runningRoll? ++ optField (s.standStandby st) standby ++
  optField (fun x : TimerPurpose × Nat => u8 x.1.code ++ u32 (x.2 - s.clk.tick)) r.timer ++
  optField (s.standButt st) butt ++ optField FaultPart.field (if r.state = .fault then r.fault else none) ++
  part (r.present && s.fp.stands[st].shown) (s.standDelivery st)

/-- STAND QUERY, the fetch of the stand's source (R83, R179). -/
def reqStandQuery (stand : Nat) (s : State) : State × Reply :=
  match fin? 24 stand with
  | none => (s, .code .badFrame)
  | some st => (s.fetch (srcStand st), ⟨.ok, s.standField st ++ s.noticeField (srcStand st)⟩)

/-- Projection and feeding fields of PRESS QUERY (R58, R102). -/
def State.pressField (s : State) (p : Press) : List Byte :=
  let r := s.pju.press[p]
  u16 r.speed ++ u16 r.scale ++ optField u16 r.pendScale ++ u32 r.position ++ flag s.fp.presses[p].slow ++
  flag s.fp.presses[p].stop ++ flag s.fp.presses[p].release ++
  ((standsOf p).map (fun st => optField s32 s.fp.stands[st].slack)).flatten

/-- PRESS QUERY, the fetch of the press's source (R58, R102, R175, R179). -/
def reqPressQuery (press : Nat) (s : State) : State × Reply :=
  match fin? 4 press with
  | none => (s, .code .badFrame)
  | some p => (s.fetch (srcPress p), ⟨.ok, s.pressField p ++ s.cu[p].field ++ s.noticeField (srcPress p)⟩)

end Sys2Proof.Machine
end

