-- ==== Sys2Proof/Machine/Settle.lean ====
section
/-! DEFINITION. How hand-offs between blocks are taken: each is handled by its receiving block, first in, first out, and a
command is over when none is left; then the fleet's stop condition is examined and a free transmitter takes its next frame. -/

namespace Sys2Proof.Machine

/-- The receiving block takes a hand-off. -/
def State.handle (s : State) : Msg → State
  | .fpStand st f autoOn fresh => s.standHanded st f autoOn fresh
  | .fpTime st t d => s.timeHanded st t d
  | .fpRetry => s.retryAll
  | .fpSlot => s.slotOffered
  | .fpChoose st => s.choose st
  | .fpLost st n => s.reservationLost st n
  | .fpTask id ts f => s.taskReported id ts f
  | .fpEnd x => s.taskEnded x
  | .luExamine => s.examine
  | .fdGranted v => s.granted v
  | .fdLaneRefused v => s.laneRefused v
  | .fdStart v => s.startTask v
  | .fdFree v => s.vehFree v
  | .fdArbiter => s.arbiter
  | .fdRuns => s.runsMayBeAsked
  | .fdArmClear st => s.armCleared st
  | .fdSlot => s.slotFreed
  | .fpCreate st => s.createNext st

/-- The hand-offs are taken one after another, at most `k` of them. -/
def State.settle : Nat → State → State
  | 0, s => s
  | k + 1, s =>
    match s.inbox with
    | [] => s
    | m :: ms => State.settle k (({ s with inbox := ms }).handle m)

/-! ## The transmitter (R184, R188, R182) -/

/-- A Control Line frame: start byte, length, kind, tag, payload, CRC with its high byte first (R184). -/
def clFrame (kind tag : Byte) (payload : List Byte) : List Byte :=
  let body := bytesLE 2 (payload.length + 2) ++ kind :: tag :: payload
  let c := crc16 body
  0xA5 :: (body ++ [(c >>> 8).setWidth 8, c.setWidth 8])

/-- A NOTICE frame (R184). -/
def noticeFrame (i : Fin 44) (r : ReasonSet) : List Byte := clFrame Config.noticeKind 0 (u8 i.val ++ setField r)

/-- A free transmitter takes the oldest reply, or asks the Notice Unit for a NOTICE, or stays idle (R188). -/
def State.pump (s : State) : State :=
  match s.clp.tx, s.clp.replies with
  | some _, _ => s
  | none, r :: rs => { s with clp := { s.clp with tx := some r, replies := rs } }
  | none, [] =>
    match s.nu.take (List.finRange 44) with
    | (nu, some x) => { s with nu := nu, clp := { s.clp with tx := some (noticeFrame x.1 x.2) } }
    | (nu, none) => { s with nu := nu }

/-- A command is over: its hand-offs are taken, the fleet's stop condition is examined (R110), the transmitter is served.
Of several events that R110 lists within one command or tick, the condition is examined once, after all of them (DESIGN
CHOICE, log 52). -/
def State.finish (s : State) : State := (State.settle Config.handoffFuel s).fleetStopCheck.pump

/-- The end of a command that hands nothing on: the transmitter is served. -/
def State.close (s : State) : State := s.pump

/-! ## The hall second (R191, R10, R36, R98, R130, R137) -/

/-- Hall time rises by one and stops at the 32-bit limit (R191). -/
def State.bumpHall (s : State) : State := { s with clk := { s.clk with hall := satSucc s.clk.hall } }

/-- The once-per-second examinations: conditioning, doors with waiters, vehicles that wait for a lane or a charger, and
slack. -/
def State.hallSecond (s : State) : State :=
  ((List.finRange 2).foldl State.secondDoor s.bumpHall.condition).retryWaits.slackSecond

/-! ## Part-level requests (R178, R180, R190, R191, R192) -/

/-- IDENTIFY (R190). -/
def reqIdentify (s : State) : State × Reply :=
  (s, ⟨.ok, u16 2240 ++ u8 1 ++ u8 s.clp.rate.val ++ u32 s.clk.hall ++
    ([512, 16, 8, 2, 16, 128, 192, 256, 12, 32, 4, 24, 44, 2, 1024].map u16).flatten⟩)

/-- TIME SET (R191). -/
def reqTimeSet (time : Nat) (s : State) : State × Reply :=
  if s.su.rolls = [] ∧ s.fd.fleet = .stopped then
    ({ s with clk := { s.clk with hall := satU32 time } }, ⟨okOr (satU32 time != time), u32 (satU32 time)⟩)
  else (s, .code .badState)

/-- The number of stands whose paste cycle is still to complete (R192). -/
def State.pastingCount (s : State) : Nat := ((List.finRange 24).filter (fun st => s.ssq[st].state == .pasting)).length

/-- RESET(MOTION) at every block (R192). -/
def State.resetMotion (s : State) : State :=
  let s1 := s.setStore s.su.resetMotion
  let s2 := (List.finRange 12).foldl State.withdrawRun s1
  let s3 := s2.resetFleet
  let s4 := { s3 with fp := s3.fp.resetMotion }
  (List.finRange 24).foldl State.resetStand s4

/-- RESET (R192). The number of stands still pasting takes a byte (DEDUCED, log 19). -/
def reqReset (scope : Nat) (s : State) : State × Reply :=
  if scope = 1 then (s.resetMotion, ⟨.ok, u8 s.pastingCount⟩) else (s, .code .badFrame)

/-- The items of ATTENTION (R178, R184). -/
def NoticeUnit.items (nu : NoticeUnit) : List (Fin 44) := (List.finRange 44).filter (fun i => nu.entries[i].pending != 0)

/-- ATTENTION (R178). -/
def reqAttention (s : State) : State × Reply :=
  ({ s with nu := s.nu.markSeen },
    ⟨.ok, flag s.nu.enable ++
      listField (fun i => u8 i.val ++ setField s.nu.entries[i].pending ++ setField s.nu.masks[kindOf i]) s.nu.items⟩)

/-- A pair (kind, mask) of NOTICE MASK, when the kind exists and the mask holds reasons of it only (R180). -/
def maskPair? (x : Nat × Nat) : Option (Fin 6 × ReasonSet) :=
  match fin? 6 x.1 with
  | none => none
  | some k => if x.2 < 65536 ∧ BitVec.ofNat 16 x.2 &&& ~~~(kindSet k) = 0 then some (k, BitVec.ofNat 16 x.2) else none

/-- The masks and the global enable a NOTICE MASK leaves, with the announcement tests it makes (R180). -/
def NoticeUnit.remask (nu : NoticeUnit) (ms : List (Fin 6 × ReasonSet)) (enable : Option Bool) : NoticeUnit :=
  let nu1 := { nu with
    masks := ms.foldl (fun v x => v.set x.1 x.2) nu.masks
    enable := enable.getD nu.enable }
  let nu2 := if nu.enable && !nu1.enable then nu1.unqueueAll else nu1
  if !ms.isEmpty || (!nu.enable && nu1.enable) then nu2.testAll else nu2

/-- NOTICE MASK (R180). -/
def reqNoticeMask (masks : List (Nat × Nat)) (enable : Option (Option Bool)) (s : State) : State × Reply :=
  if ¬ (masks.map (·.1)).Nodup ∨ enable = some none then (s, .code .badFrame)
  else match masks.mapM maskPair? with
    | none => (s, .code .badFrame)
    | some ms =>
      let nu := s.nu.remask ms enable.join
      ({ s with nu := nu }, ⟨.ok, (nu.masks.toList.map setField).flatten ++ flag nu.enable⟩)

end Sys2Proof.Machine
end

