-- ==== Sys2Proof/Machine/Operands.lean ====
section
/-! DEFINITION. The payloads of the requests (R184, R187, R189): from the kind byte and the payload bytes of a Control Line
frame to the request it spells, and the request's taking by the block that owns it. -/

namespace Sys2Proof.Machine

/-- A reader of payload bytes: a value and the bytes left, or none for a payload that is too short or malformed. -/
abbrev Reader := StateT (List Byte) Option

/-- `k` bytes as a number, least significant first. -/
def readNat : Nat → Reader Nat
  | 0 => pure 0
  | k + 1 => fun bs => match bs with
    | [] => none
    | b :: rest => match readNat k rest with
      | none => none
      | some (n, left) => some (b.toNat + 256 * n, left)

def r8 : Reader Nat := readNat 1
def r16 : Reader Nat := readNat 2
def r32 : Reader Nat := readNat 4

/-- A malformed payload. -/
def bad {α : Type} : Reader α := fun _ => none

/-- An optional field: presence byte 0 or 1, then the value when 1 (R187). -/
def rOpt {α : Type} (p : Reader α) : Reader (Option α) := do
  match ← r8 with
  | 0 => pure none
  | 1 => some <$> p
  | _ => bad

/-- `k` entries of a list. -/
def rEntries {α : Type} (p : Reader α) : Nat → Reader (List α)
  | 0 => pure []
  | k + 1 => do
    let x ← p
    let xs ← rEntries p k
    pure (x :: xs)

/-- A list: its entry count, then its entries (R187). -/
def rList {α : Type} (p : Reader α) : Reader (List α) := do
  let k ← r8
  rEntries p k

/-- A presence set of `n` fields; a bit with no field is malformed (R187). -/
def rSet (n : Nat) : Reader Nat := do
  let x ← r16
  if x < 2 ^ n then pure x else bad

/-- The field of bit `i` of a presence set: read when the bit is set. -/
def rField {α : Type} (set i : Nat) (p : Reader α) : Reader (Option α) :=
  if set.testBit i then some <$> p else pure none

/-- A flag or an ON/OFF value: 0 or 1; any other is none of the kind's values. -/
def rBool : Reader (Option Bool) := do
  match ← r8 with
  | 0 => pure (some false)
  | 1 => pure (some true)
  | _ => pure none

/-- An enumerated value by its number; none for a number that is none of the kind's values (R187). -/
def rEnum {α : Type} (xs : List α) : Reader (Option α) := do
  let k ← r8
  pure xs[k]?

def rWidth : Reader (Option WidthClass) := rEnum [.full, .threeQuarter, .half]

/-- A lane or bay named as a place. A kind that is neither is malformed. -/
def rPlace : Reader PlaceArg := do
  match ← r8 with
  | 0 => PlaceArg.lane <$> r8
  | 1 => PlaceArg.bay <$> r8
  | _ => bad

/-- The content of BAY SET (R33). -/
def rContent : Reader BayContent := do
  match ← r8 with
  | 0 => pure .keep
  | 1 => pure .empty
  | 2 => BayContent.roll <$> r32
  | _ => bad

/-- A node kind (R104). -/
def rKind : Reader NodeKind := do
  match ← r8 with
  | 0 => pure .plain
  | 1 => pure .hold
  | 2 => NodeKind.laneHead <$> r8
  | 3 => NodeKind.bay <$> r8
  | 4 => NodeKind.stand <$> r8
  | 5 => pure .charger
  | 6 => pure .park
  | 7 => pure .home
  | _ => bad

/-- A segment attribute (R105). -/
def rAttr : Reader SegAttr := do
  match ← r8 with
  | 0 => pure .none
  | 1 => SegAttr.door <$> r8
  | 2 => SegAttr.lane <$> r8
  | _ => bad

/-- A form of FLOOR QUERY (R120). -/
def rFloorForm : Reader FloorForm := do
  match ← r8 with
  | 0 => FloorForm.node <$> r8
  | 1 => FloorForm.segment <$> r8
  | 2 => FloorForm.route <$> r8
  | 3 => pure .waits
  | _ => bad

/-- A form of TASK QUERY (R187). -/
def rTaskForm : Reader TaskForm := do
  match ← r8 with
  | 0 => TaskForm.one <$> r16
  | 1 => TaskForm.all <$> r8
  | _ => bad

/-- The payload of a request kind (R189), fields in the order of the owning rule; none for a kind not listed. Fields whose
width R187's table does not give (UNSTACK's count, the position of TASK QUERY) are log 19's (DEDUCED). -/
def payload? (kind : Nat) : Option (Reader Instr) :=
  match kind with
  | 0x01 => some (pure .identify)
  | 0x02 => some (Instr.timeSet <$> r32)
  | 0x03 => some (Instr.resetMotion <$> r8)
  | 0x04 => some (pure .attention)
  | 0x05 => some do
    let ms ← rList (do let k ← r8; let m ← r16; pure (k, m))
    let e ← rOpt rBool
    pure (.noticeMask ms e)
  | 0x10 => some do
    let n ← r32; let g ← r8; let w ← rWidth; let c ← r16; let d ← r16; let l ← r16; let p ← rPlace
    pure (.rollIn n g w c d l (some p))
  | 0x11 => some do
    let n ← r32; let set ← rSet 5
    let g ← rField set 0 r8; let w ← rField set 1 rWidth; let c ← rField set 2 r16; let d ← rField set 3 r16
    let l ← rField set 4 r16
    pure (.rollEdit n g w c d l)
  | 0x12 => some (Instr.rollHold <$> r32)
  | 0x13 => some (Instr.rollFree <$> r32)
  | 0x14 => some (Instr.rollClose <$> r32)
  | 0x15 => some (Instr.rollQuery <$> r32)
  | 0x16 => some do
    let g ← r8; let m ← r16
    pure (.gradeSet g m)
  | 0x18 => some do
    let l ← r8; let ns ← rList r32
    pure (.laneSet l ns)
  | 0x19 => some (Instr.laneBlock <$> r8)
  | 0x1A => some (Instr.laneUnblock <$> r8)
  | 0x1B => some (Instr.laneRelease <$> r8)
  | 0x1C => some (Instr.laneQuery <$> r8)
  | 0x1D => some do
    let ds ← rList r8; let c ← r16
    pure (.storeConfig ds c)
  | 0x1E => some (pure .storeQuery)
  | 0x1F => some do
    let b ← r8; let c ← rContent
    pure (.baySet b (some c))
  | 0x20 => some do
    let d ← r8; let set ← rSet 2; let n ← rField set 0 r8; let w ← rField set 1 r16
    pure (.doorConfig d n w)
  | 0x21 => some (Instr.doorQuery <$> r8)
  | 0x30 => some do
    let st ← r8; let p ← rEnum [Presence.present, .absent]; let set ← rSet 8
    let r ← rField set 0 r16; let rm ← rField set 1 r16; let al ← rField set 2 r16; let lim ← rField set 3 r16
    let pt ← rField set 4 r16; let mw ← rField set 5 r8; let pc ← rField set 6 r32; let ej ← rField set 7 r16
    pure (.standConfig st p ⟨r, rm, al, lim, pt, mw, pc, ej⟩)
  | 0x31 => some do
    let st ← r8; let on ← rBool
    pure (.standAuto st on)
  | 0x32 => some (Instr.standSplice <$> r8)
  | 0x33 => some (Instr.standThread <$> r8)
  | 0x34 => some do
    let st ← r8; let x ← rEnum [Resolve.pastedYes, .pastedNo]
    pure (.standResolve st x)
  | 0x35 => some (Instr.standEject <$> r8)
  | 0x36 => some do
    let st ← r8; let x ← rOpt (do let g ← r8; let w ← rWidth; pure (g, w))
    pure (.standAssign st x)
  | 0x37 => some do
    let st ← r8; let set ← r16
    pure (.standWatch st set)
  | 0x38 => some (Instr.standQuery <$> r8)
  | 0x40 => some (Instr.pressRelease <$> r8)
  | 0x41 => some do
    let set ← rSet 4
    let d ← rField set 0 r16; let m ← rField set 1 r16; let pk ← rField set 2 r16; let pl ← rField set 3 r16
    pure (.pressFeedConfig d m pk pl)
  | 0x42 => some do
    let p ← r8; let set ← rSet 6
    let k ← rField set 0 r16; let c ← rField set 1 r16; let n ← rField set 2 r8
    let e ← rField set 3 (rEnum [CopyEdge.none, .rising, .falling, .both])
    let g ← rField set 4 (rEnum [GatePolarity.wasteHigh, .wasteLow]); let w ← rField set 5 r16
    pure (.pressConfig p ⟨k, c, n, e, g, w⟩)
  | 0x43 => some do
    let p ← r8; let t ← r32; let w ← r32
    pure (.edition p t w)
  | 0x44 => some do
    let p ← r8; let x ← rEnum [PlateAction.set, .cancel]
    pure (.plate p x)
  | 0x45 => some (Instr.countClear <$> r8)
  | 0x46 => some (Instr.runsQuery <$> r8)
  | 0x47 => some (Instr.pressQuery <$> r8)
  | 0x50 => some do
    let n ← r8; let k ← rKind; let e ← rOpt r8
    pure (.floorNode n (some k) e)
  | 0x51 => some do
    let n ← r8; let x ← r8; let y ← r8; let len ← r16; let t ← rAttr; let d ← rEnum [Direction.both, .aToB]
    pure (.floorSegment n x y len (some t) d)
  | 0x52 => some do
    let n ← r8; let x ← r8; let y ← r8; let gs ← rList r8
    pure (.floorRoute n x y gs)
  | 0x53 => some (pure .floorClear)
  | 0x54 => some do
    let f ← rFloorForm
    pure (.floorQuery (some f))
  | 0x55 => some (pure .fleetStart)
  | 0x56 => some (pure .fleetStop)
  | 0x60 => some do
    let set ← rSet 5
    let h ← rField set 0 r16; let p ← rField set 1 r16; let d ← rField set 2 r16; let i ← rField set 3 r16
    let t ← rField set 4 r16
    pure (.fleetConfig ⟨h, p, d, i, t⟩)
  | 0x61 => some (pure .fleetQuery)
  | 0x62 => some do
    let l ← r8; let n ← r8; let d ← rOpt r32
    pure (.taskUnstack l n d)
  | 0x63 => some do
    let l ← r8; let d ← rOpt r32
    pure (.taskCheck l d)
  | 0x64 => some do
    let v ← r8; let n ← r8; let p ← rOpt rPlace; let d ← rOpt r32
    pure (.taskMove v n (p.map some) d)
  | 0x65 => some (Instr.taskCancel <$> r16)
  | 0x66 => some do
    let f ← rTaskForm
    pure (.taskQuery (some f))
  | 0x67 => some do
    let v ← r8; let n ← r16
    pure (.vehicleEnrol v n)
  | 0x68 => some (Instr.vehicleRemove <$> r8)
  | 0x69 => some (Instr.vehicleHalt <$> r8)
  | 0x6A => some do
    let v ← r8; let n ← r8
    pure (.vehicleRecover v n)
  | 0x6B => some (Instr.vehicleHome <$> r8)
  | 0x6C => some do
    let v ← r8; let c ← rBool
    pure (.vehicleQuery v c)
  | _ => none

/-- The request a frame spells, or the result code that refuses it (R187): a kind not listed, or a payload whose structure
is not that of its kind. -/
def requestOf (f : ClFrame) : Result ⊕ Instr :=
  match payload? f.kind.toNat with
  | none => .inl .unknownKind
  | some p =>
    match p f.payload with
    | some (i, []) => .inr i
    | _ => .inl .badFrame

/-- A request is taken by the block that owns its object (R186, R189); none for a command that is no request. -/
def State.request? (s : State) : Instr → Option (State × Reply)
  | .identify => some (reqIdentify s)
  | .timeSet t => some (reqTimeSet t s)
  | .resetMotion x => some (reqReset x s)
  | .attention => some (reqAttention s)
  | .noticeMask ms e => some (reqNoticeMask ms e s)
  | .rollIn n g w c d l p => some (reqRollIn n g w c d l p s)
  | .rollEdit n g w c d l => some (reqRollEdit n g w c d l s)
  | .rollHold n => some (reqRollHold n s)
  | .rollFree n => some (reqRollFree n s)
  | .rollClose n => some (reqRollClose n s)
  | .rollQuery n => some (reqRollQuery n s)
  | .gradeSet g m => some (reqGradeSet g m s)
  | .laneSet l ns => some (reqLaneSet l ns s)
  | .laneBlock l => some (reqLaneBlock l s)
  | .laneUnblock l => some (reqLaneUnblock l s)
  | .laneRelease l => some (reqLaneRelease l s)
  | .laneQuery l => some (reqLaneQuery l s)
  | .storeConfig ds c => some (reqStoreConfig ds c s)
  | .storeQuery => some (reqStoreQuery s)
  | .baySet b c => some (reqBaySet b c s)
  | .doorConfig d n w => some (reqDoorConfig d n w s)
  | .doorQuery d => some (reqDoorQuery d s)
  | .standConfig st p x => some (reqStandConfig st p x s)
  | .standAuto st on => some (reqStandAuto st on s)
  | .standSplice st => some (reqStandSplice st s)
  | .standThread st => some (reqStandThread st s)
  | .standResolve st x => some (reqStandResolve st x s)
  | .standEject st => some (reqStandEject st s)
  | .standAssign st x => some (reqStandAssign st x s)
  | .standWatch st x => some (reqStandWatch st x s)
  | .standQuery st => some (reqStandQuery st s)
  | .pressRelease p => some (reqPressRelease p s)
  | .pressFeedConfig d m pk pl => some (reqPressFeedConfig d m pk pl s)
  | .pressConfig p c => some (reqPressConfig p c s)
  | .edition p t w => some (reqEdition p t w s)
  | .plate p x => some (reqPlate p x s)
  | .countClear p => some (reqCountClear p s)
  | .runsQuery p => some (reqRunsQuery p s)
  | .pressQuery p => some (reqPressQuery p s)
  | .floorNode n k e => some (reqFloorNode n k e s)
  | .floorSegment n x y len t d => some (reqFloorSegment n x y len t d s)
  | .floorRoute n x y gs => some (reqFloorRoute n x y gs s)
  | .floorClear => some (reqFloorClear s)
  | .floorQuery f => some (reqFloorQuery f s)
  | .fleetStart => some (reqFleetStart s)
  | .fleetStop => some (reqFleetStop s)
  | .fleetConfig c => some (reqFleetConfig c s)
  | .fleetQuery => some (reqFleetQuery s)
  | .taskUnstack l n d => some (reqTaskUnstack l n d s)
  | .taskCheck l d => some (reqTaskCheck l d s)
  | .taskMove v n p d => some (reqTaskMove v n p d s)
  | .taskCancel k => some (reqTaskCancel k s)
  | .taskQuery f => some (reqTaskQuery f s)
  | .vehicleEnrol v n => some (reqVehicleEnrol v n s)
  | .vehicleRemove v => some (reqVehicleRemove v s)
  | .vehicleHalt v => some (reqVehicleHalt v s)
  | .vehicleRecover v n => some (reqVehicleRecover v n s)
  | .vehicleHome v => some (reqVehicleHome v s)
  | .vehicleQuery v c => some (reqVehicleQuery v c s)
  | _ => none

end Sys2Proof.Machine
end

