-- ==== Sys2Proof/Machine/Line.lean ====
section
/-! DEFINITION. The Control Line Port (chapter 11): the receiver, the input buffer, the taking of requests and the end of a
transmission. -/

namespace Sys2Proof.Machine

/-! ## Receiver (R185) -/

/-- The frame that body bytes make: kind, tag, payload. A body holds 2 bytes at least. -/
def frameOf : List Byte → Option ClFrame
  | kind :: tag :: payload => some ⟨kind, tag, payload⟩
  | _ => none

/-- The CRC of a received frame's body (R184): over the length field, the kind, the tag and the payload. -/
def bodyCrc (body : List Byte) : BitVec 16 := crc16 (bytesLE 2 body.length ++ body)

/-- The CRC bytes received, high byte first, are those of the body. -/
def crcMatches (body : List Byte) (hi lo : Byte) : Bool :=
  hi == (bodyCrc body >>> 8).setWidth 8 && lo == (bodyCrc body).setWidth 8

/-- A byte taken in the state it finds: the state after it, and the frame it completes (R185). -/
def Rx.take : Rx → Byte → Rx × Option ClFrame
  | .hunt, b => (if b = 0xA5 then .length none else .hunt, none)
  | .length none, b => (.length (some b), none)
  | .length (some lo), b =>
    let n := natLE [lo, b]
    (if 2 ≤ n ∧ n ≤ Config.maxFrame then .body n [] else .hunt, none)
  | .body n got, b =>
    (if got.length + 1 < n then .body n (got ++ [b]) else .check (got ++ [b]) none, none)
  | .check got none, b => (.check got (some b), none)
  | .check got (some hi), b => (.hunt, if crcMatches got hi b then frameOf got else none)

/-- A complete frame is put into the input buffer when it holds fewer than 2, and discarded otherwise (R185). -/
def LinePort.bufferFrame (p : LinePort) (f : ClFrame) : LinePort :=
  if p.buffer.length < Config.inputBuffer then { p with buffer := p.buffer ++ [f] } else p

/-- A frame is complete: the receiver is back in HUNT (R185). -/
def State.frameComplete (s : State) (f : ClFrame) : State :=
  { s with clp := { s.clp with rx := .hunt }.bufferFrame f }

/-- More than 5 ms have passed since the last byte of a partial frame (R185). -/
def State.rxLate (s : State) : Bool := s.clp.rx != .hunt && decide (5 < s.clk.tick - s.clp.rxTick)

/-- A byte is received (R185): a late one is taken in HUNT. -/
def State.rxByte (s : State) (b : Byte) : State :=
  let res := (if s.rxLate then Rx.hunt else s.clp.rx).take b
  let p := { s.clp with rx := res.1, rxTick := s.clk.tick }
  { s with clp := match res.2 with
    | some f => p.bufferFrame f
    | none => p }

/-- The partial frame, if any, is discarded (R185). -/
def State.dropPartial (s : State) : State := { s with clp := { s.clp with rx := .hunt } }

/-! ## Taking requests (R184, R186, R187) -/

/-- Result codes (R184). -/
def Result.number : Result → Nat
  | .ok => 0 | .okClamped => 1 | .badFrame => 2 | .unknownKind => 3 | .badState => 4 | .busy => 5 | .notFound => 6
  | .tableFull => 7 | .locked => 8 | .conflict => 9

/-- A free reply kind, over the byte values other than 0x7F (log 5). -/
def kindByte (k : Fin 255) : Byte := byteOf (if k.val < 0x7F then k.val else k.val + 1)

/-- A reply's kind: the request's kind plus 0x80 (R184). For a kind with its top bit set the sum is no byte: free value
(log 5). -/
def replyKind (k : Byte) : Byte := if k.msb then kindByte (Config.replyKindOver k) else k + 0x80

/-- The reply frame to a request frame (R184): its first payload byte is the result code. -/
def replyFrame (f : ClFrame) (r : Reply) : List Byte :=
  clFrame (replyKind f.kind) f.tag (byteOf r.result.number :: r.body)

/-- The reply to a taken frame joins the back of the reply queue (R186). -/
def State.answer (s : State) (f : ClFrame) (r : Reply) : State :=
  { s with clp := { s.clp with replies := s.clp.replies ++ [replyFrame f r], lastReply := some r } }

/-- A frame removed from the input buffer is taken as a request: checked, handed to its owning block, answered (R186,
R187). -/
def State.takeFrame (s : State) (f : ClFrame) : State :=
  match requestOf f with
  | .inl e => s.answer f (.code e)
  | .inr i =>
    match s.request? i with
    | some x => x.1.answer f x.2
    | none => s.answer f (.code .unknownKind)

/-- The oldest buffered frame is taken as a request, when there is one and the reply queue has room (R186). -/
def State.requestTake (s : State) : State :=
  match s.clp.buffer with
  | [] => s
  | f :: fs =>
    if s.clp.replies.length < Config.replyQueue then ({ s with clp := { s.clp with buffer := fs } }.takeFrame f).finish
    else s

/-! ## Transmitter (R188) -/

/-- The frame being transmitted has been sent (R188): the next is chosen. -/
def State.transmitDone (s : State) : State := { s with clp := { s.clp with tx := none } }.pump

end Sys2Proof.Machine
end

