-- ==== Sys2Proof/Machine/Tick.lean ====
section
/-! DEFINITION. One tick of the Hall Clock (R191) and everything that falls due at it: what `step` does when no command
waits (DESIGN CHOICE, log 4). -/

namespace Sys2Proof.Machine

/-- The tick count rises by one (R191). -/
def State.bumpTick (s : State) : State := { s with clk := { s.clk with tick := s.clk.tick + 1 } }

/-- A partial frame whose next byte is late is discarded (R185). -/
def State.dueGap (s : State) : State := if s.rxLate then s.dropPartial else s

/-- A lane whose clear time has passed (R23). -/
def State.dueLane (s : State) (l : Nat) : State :=
  match s.su.lanes[l]?.map LaneRec.motion with
  | some (.clearing e) => if e ≤ s.clk.tick then s.laneToIdle l else s
  | _ => s

/-- A stand whose sequence timer has expired (R69, R72, R73). -/
def State.dueStand (s : State) (st : Stand) : State :=
  match s.ssq[st].timer with
  | some (p, e) =>
    if e ≤ s.clk.tick then
      match p with
      | .accel => s.accelTimeout st
      | .paste => s.pasteTimeout st
      | .eject => s.ejectTimeout st
    else s
  | none => s

/-- The reply window of the visit in progress (R153). -/
def State.dueWindow (s : State) : State :=
  match s.fl.visit with
  | some x => if x.closes ≤ s.clk.tick then s.windowExpiry else s
  | none => s

/-- A vehicle whose wake expiry is reached (R156). -/
def State.dueWake (s : State) (v : Vehicle) : State :=
  match s.fl.links[v].wakeExpiry with
  | some e => if e ≤ s.clk.tick then s.wakeExpiry v else s
  | none => s

/-- A waiting entry that has waited for the hold timeout (R117). -/
def State.dueHold (s : State) (v : Vehicle) : State :=
  match s.lu.waiting? v with
  | some e => if s.fd.holdTimeout * 1000 ≤ s.clk.tick - e.since then s.holdTimeout v else s
  | none => s

/-- A vehicle's interval time runs, outside CHARGING and SLEEP (R136). -/
def State.dueInterval (s : State) (v : Vehicle) : State :=
  let r := s.fd.vehicles[v]
  if r.enrolled = true ∧ r.state ≠ some .charging ∧ r.state ≠ some .sleep then
    if s.fd.chargeInterval * 60000 ≤ r.interval + 1 then s.chargeExpiry v
    else s.modVeh v (fun r => { r with interval := r.interval + 1 })
  else s

/-- A charging vehicle's top-up time runs while it draws current (R136). -/
def State.dueTopUp (s : State) (v : Vehicle) : State :=
  let r := s.fd.vehicles[v]
  if r.state = some .charging ∧ s.drawsCharge v = true then
    if s.fd.topUpPeriod * 60000 ≤ r.topUp + 1 then s.topUpExpiry v
    else s.modVeh v (fun r => { r with topUp := r.topUp + 1 })
  else s

/-- A poll cycle starts at every 400th tick (R149). -/
def State.dueCycle (s : State) : State := if s.clk.tick % 400 = 0 then s.pollCycle else s

/-- The slot of vehicle n begins 32 × n ticks after the cycle start (R149); no cycle runs before the first. -/
def State.dueVisit (s : State) : State :=
  if 400 ≤ s.clk.tick ∧ s.clk.tick % 400 % 32 = 0 then
    match fin? 12 (s.clk.tick % 400 / 32) with
    | some v => s.visitSlot v
    | none => s
  else s

/-- A bucket boundary at every 100th tick (R41). -/
def State.dueBucket (s : State) : State := if s.clk.tick % 100 = 0 then s.bucketBoundary else s

/-- The park delay of an IDLE vehicle (R138), in hall seconds. -/
def State.duePark (s : State) (v : Vehicle) : State :=
  let r := s.fd.vehicles[v]
  if r.state = some .idle ∧ r.parkWait = false ∧ s.fd.parkDelay ≤ s.since r.delayFrom then s.parkExpiry v else s

/-- The sleep delay of a DOZE vehicle (R139), in hall seconds. -/
def State.dueSleep (s : State) (v : Vehicle) : State :=
  let r := s.fd.vehicles[v]
  if r.state = some .doze ∧ r.sleepTested = false ∧ s.fd.sleepDelay ≤ s.since r.delayFrom then s.sleepExpiry v else s

/-- A hall second at every 1,000th tick (R191), and the delays counted in hall seconds. -/
def State.dueSecond (s : State) : State :=
  if s.clk.tick % 1000 = 0 then
    (List.finRange 12).foldl State.dueSleep ((List.finRange 12).foldl State.duePark s.hallSecond)
  else s

/-- The stand timers, lane expiries and vehicle timers due at the tick. -/
def State.dueTimers (s : State) : State :=
  let s1 := (List.range s.su.lanes.length).foldl State.dueLane s.dueGap
  let s2 := (List.finRange 24).foldl State.dueStand s1
  let s3 := (List.finRange 12).foldl State.dueWake s2.dueWindow
  let s4 := (List.finRange 12).foldl State.dueHold s3
  (List.finRange 12).foldl State.dueTopUp ((List.finRange 12).foldl State.dueInterval s4)

/-- One tick of the Hall Clock: what falls due at it, then the hand-offs, then a waiting request (R186). -/
def State.oneTick (s : State) : State :=
  s.bumpTick.dueTimers.dueBucket.dueCycle.dueVisit.dueSecond.finish.requestTake

end Sys2Proof.Machine
end

