-- ==== Sys2Proof/Machine/ExecPart.lean ====
section
/-! DEFINITION. Meanings of the part-level commands: hardware reset, the Control Line, and the requests that concern the
whole part or the notices. -/

namespace Sys2Proof.Machine

/-- What a command answers. -/
abbrev Out := Host.Outcome State Fault Refusal

/-! ## How a command ends -/

/-- A request that hands nothing on and raises nothing is taken: its owning block has formed the reply (R186). -/
def taken (x : State × Reply) : Out := .next (x.1.reply x.2)

/-- A request that may announce a source is taken: a free transmitter is served (R188). -/
def takenServed (x : State × Reply) : Out := .next (x.1.reply x.2).close

/-- A request that may hand work to other blocks is taken: the hand-offs are followed to their end. -/
def takenSettled (x : State × Reply) : Out := .next (x.1.reply x.2).finish

/-! ## Part level (R183, R193) -/

/-- The line speed of the RATE pins, numbered as in R183. -/
def rateOf (rate1 rate0 : Bool) : Fin 4 :=
  match rate1, rate0 with
  | false, false => 0
  | false, true => 1
  | true, false => 2
  | true, true => 3

/-- HARDWARE_RESET (R193): every block takes its reset values and the RATE pins are sampled; the levels of the press
inputs are driven from outside and stand as they are. -/
def execHardwareReset (rate1 rate0 : Bool) (s : State) : Out :=
  .next (State.afterReset (rateOf rate1 rate0) s.pins s.pending)

/-! ## Control Line (R185, R186, R188) -/

/-- FRAME_COMPLETE (R185). -/
def execFrameComplete (frame : ClFrame) (s : State) : Out := .next (s.frameComplete frame)

/-- RX_GAP_TIMEOUT (R185). -/
def execRxGapTimeout (s : State) : Out := .next s.dropPartial

/-- REQUEST_TAKE (R186, R187). -/
def execRequestTake (s : State) : Out := .next s.requestTake

/-- TRANSMIT_DONE (R188). -/
def execTransmitDone (s : State) : Out := .next s.transmitDone

/-- RX_BYTE (R185). -/
def execRxByte (byte : Byte) (s : State) : Out := .next (s.rxByte byte)

/-- RX_FRAMING_ERROR (R185): the byte and the partial frame are discarded. -/
def execRxFramingError (s : State) : Out := .next s.dropPartial

/-! ## Part-level requests and notices -/

/-- IDENTIFY (R190). -/
def execIdentify (s : State) : Out := taken (reqIdentify s)

/-- TIME_SET (R191). -/
def execTimeSet (time : Nat) (s : State) : Out := taken (reqTimeSet time s)

/-- RESET_MOTION (R192). -/
def execResetMotion (scope : Nat) (s : State) : Out := takenSettled (reqReset scope s)

/-- ATTENTION (R178). -/
def execAttention (s : State) : Out := taken (reqAttention s)

/-- NOTICE_MASK (R180). -/
def execNoticeMask (masks : List (Nat × Nat)) (enable : Option (Option Bool)) (s : State) : Out := takenServed (reqNoticeMask masks enable s)

end Sys2Proof.Machine
end

