-- ==== Sys2Proof/Machine/ExecStore.lean ====
section
/-! DEFINITION. Meanings of the requests on rolls, grades, lanes, bays, doors and the store (chapters 1 and 2). -/

namespace Sys2Proof.Machine

/-- ROLL_IN (R7, R8). -/
def execRollIn (roll grade : Nat) (width : Option WidthClass) (caliper core label : Nat) (place : Option PlaceArg) (s : State) : Out := takenSettled (reqRollIn roll grade width caliper core label place s)

/-- ROLL_EDIT (R11). -/
def execRollEdit (roll : Nat) (grade : Option Nat) (width : Option (Option WidthClass)) (caliper core label : Option Nat) (s : State) : Out := takenSettled (reqRollEdit roll grade width caliper core label s)

/-- ROLL_HOLD (R12). -/
def execRollHold (roll : Nat) (s : State) : Out := takenSettled (reqRollHold roll s)

/-- ROLL_FREE (R13). -/
def execRollFree (roll : Nat) (s : State) : Out := takenSettled (reqRollFree roll s)

/-- ROLL_CLOSE (R14). -/
def execRollClose (roll : Nat) (s : State) : Out := taken (reqRollClose roll s)

/-- ROLL_QUERY (R15). -/
def execRollQuery (roll : Nat) (s : State) : Out := taken (reqRollQuery roll s)

/-- GRADE_SET (R9). -/
def execGradeSet (grade minutes : Nat) (s : State) : Out := taken (reqGradeSet grade minutes s)

/-- LANE_SET (R27). -/
def execLaneSet (lane : Nat) (rolls : List Nat) (s : State) : Out := takenSettled (reqLaneSet lane rolls s)

/-- LANE_BLOCK (R25). -/
def execLaneBlock (lane : Nat) (s : State) : Out := takenSettled (reqLaneBlock lane s)

/-- LANE_UNBLOCK (R25). -/
def execLaneUnblock (lane : Nat) (s : State) : Out := takenSettled (reqLaneUnblock lane s)

/-- LANE_RELEASE (R26). -/
def execLaneRelease (lane : Nat) (s : State) : Out := takenSettled (reqLaneRelease lane s)

/-- LANE_QUERY (R28). -/
def execLaneQuery (lane : Nat) (s : State) : Out := taken (reqLaneQuery lane s)

/-- STORE_CONFIG (R29). -/
def execStoreConfig (depths : List Nat) (clearTime : Nat) (s : State) : Out := taken (reqStoreConfig depths clearTime s)

/-- STORE_QUERY (R30, R179). -/
def execStoreQuery (s : State) : Out := takenServed (reqStoreQuery s)

/-- BAY_SET (R33). -/
def execBaySet (bay : Nat) (content : Option BayContent) (s : State) : Out := takenSettled (reqBaySet bay content s)

/-- DOOR_CONFIG (R34, R36). -/
def execDoorConfig (door : Nat) (limit window : Option Nat) (s : State) : Out := takenSettled (reqDoorConfig door limit window s)

/-- DOOR_QUERY (R38, R179). -/
def execDoorQuery (door : Nat) (s : State) : Out := takenServed (reqDoorQuery door s)

end Sys2Proof.Machine
end

