-- ==== Sys2Proof/Machine/ExecStand.lean ====
section
/-! DEFINITION. Meanings of the requests on stands (chapter 4). -/

namespace Sys2Proof.Machine

/-- STAND_CONFIG (R59, R60). -/
def execStandConfig (stand : Nat) (presence : Option Presence) (cfg : StandCfgArg) (s : State) : Out := takenSettled (reqStandConfig stand presence cfg s)

/-- STAND_AUTO (R76). -/
def execStandAuto (stand : Nat) (on : Option Bool) (s : State) : Out := takenSettled (reqStandAuto stand on s)

/-- STAND_SPLICE (R77). -/
def execStandSplice (stand : Nat) (s : State) : Out := takenSettled (reqStandSplice stand s)

/-- STAND_THREAD (R78). -/
def execStandThread (stand : Nat) (s : State) : Out := takenSettled (reqStandThread stand s)

/-- STAND_RESOLVE (R79). -/
def execStandResolve (stand : Nat) (answer : Option Resolve) (s : State) : Out := takenSettled (reqStandResolve stand answer s)

/-- STAND_EJECT (R80). -/
def execStandEject (stand : Nat) (s : State) : Out := takenSettled (reqStandEject stand s)

/-- STAND_ASSIGN (R81). -/
def execStandAssign (stand : Nat) (assignment : Option (Nat × Option WidthClass)) (s : State) : Out := takenSettled (reqStandAssign stand assignment s)

/-- STAND_WATCH (R82). -/
def execStandWatch (stand set : Nat) (s : State) : Out := takenSettled (reqStandWatch stand set s)

/-- STAND_QUERY (R83, R179). -/
def execStandQuery (stand : Nat) (s : State) : Out := takenServed (reqStandQuery stand s)

end Sys2Proof.Machine
end

