-- ==== Sys2Proof/Machine/ExecPress.lean ====
section
/-! DEFINITION. Meanings of the requests on presses (chapters 5 and 9). -/

namespace Sys2Proof.Machine

/-- PRESS_RELEASE (R100). -/
def execPressRelease (press : Nat) (s : State) : Out := takenServed (reqPressRelease press s)

/-- PRESS_FEED_CONFIG (R101). -/
def execPressFeedConfig (estimate margin pickOverhead placeOverhead : Option Nat) (s : State) : Out := taken (reqPressFeedConfig estimate margin pickOverhead placeOverhead s)

/-- PRESS_CONFIG (R42, R161, R162). -/
def execPressConfig (press : Nat) (cfg : PressCfgArg) (s : State) : Out := taken (reqPressConfig press cfg s)

/-- EDITION (R172). -/
def execEdition (press target allowance : Nat) (s : State) : Out := taken (reqEdition press target allowance s)

/-- PLATE (R173). -/
def execPlate (press : Nat) (action : Option PlateAction) (s : State) : Out := taken (reqPlate press action s)

/-- COUNT_CLEAR (R174). -/
def execCountClear (press : Nat) (s : State) : Out := taken (reqCountClear press s)

/-- RUNS_QUERY (R175). -/
def execRunsQuery (press : Nat) (s : State) : Out := taken (reqRunsQuery press s)

/-- PRESS_QUERY (R58, R102, R175, R179). -/
def execPressQuery (press : Nat) (s : State) : Out := takenServed (reqPressQuery press s)

end Sys2Proof.Machine
end

