-- ==== Sys2Proof/Machine/ExecFleet.lean ====
section
/-! DEFINITION. Meanings of the requests on the floor plan, the fleet, tasks and vehicles (chapters 6 and 7). -/

namespace Sys2Proof.Machine

/-- FLOOR_NODE (R107). -/
def execFloorNode (number : Nat) (kind : Option NodeKind) (escape : Option Nat) (s : State) : Out := taken (reqFloorNode number kind escape s)

/-- FLOOR_SEGMENT (R107). -/
def execFloorSegment (number a b length : Nat) (attr : Option SegAttr) (direction : Option Direction) (s : State) : Out := taken (reqFloorSegment number a b length attr direction s)

/-- FLOOR_ROUTE (R107). -/
def execFloorRoute (number origin destination : Nat) (segments : List Nat) (s : State) : Out := taken (reqFloorRoute number origin destination segments s)

/-- FLOOR_CLEAR (R107). -/
def execFloorClear (s : State) : Out := taken (reqFloorClear s)

/-- FLOOR_QUERY (R120). -/
def execFloorQuery (form : Option FloorForm) (s : State) : Out := taken (reqFloorQuery form s)

/-- FLEET_START (R109). -/
def execFleetStart (s : State) : Out := takenSettled (reqFleetStart s)

/-- FLEET_STOP (R110). -/
def execFleetStop (s : State) : Out := takenSettled (reqFleetStop s)

/-- FLEET_CONFIG (R145). -/
def execFleetConfig (cfg : FleetCfgArg) (s : State) : Out := taken (reqFleetConfig cfg s)

/-- FLEET_QUERY (R146, R159, R179). -/
def execFleetQuery (s : State) : Out := takenServed (reqFleetQuery s)

/-- TASK_UNSTACK (R127). -/
def execTaskUnstack (lane count : Nat) (deadline : Option Nat) (s : State) : Out := takenSettled (reqTaskUnstack lane count deadline s)

/-- TASK_CHECK (R127). -/
def execTaskCheck (lane : Nat) (deadline : Option Nat) (s : State) : Out := takenSettled (reqTaskCheck lane deadline s)

/-- TASK_MOVE (R127). -/
def execTaskMove (vehicle node : Nat) (drop : Option (Option PlaceArg)) (deadline : Option Nat) (s : State) : Out := takenSettled (reqTaskMove vehicle node drop deadline s)

/-- TASK_CANCEL (R128). -/
def execTaskCancel (task : Nat) (s : State) : Out := takenSettled (reqTaskCancel task s)

/-- TASK_QUERY (R146, R187). -/
def execTaskQuery (form : Option TaskForm) (s : State) : Out := taken (reqTaskQuery form s)

/-- VEHICLE_ENROL (R144). -/
def execVehicleEnrol (vehicle speed : Nat) (s : State) : Out := taken (reqVehicleEnrol vehicle speed s)

/-- VEHICLE_REMOVE (R144). -/
def execVehicleRemove (vehicle : Nat) (s : State) : Out := takenSettled (reqVehicleRemove vehicle s)

/-- VEHICLE_HALT (R141). -/
def execVehicleHalt (vehicle : Nat) (s : State) : Out := takenSettled (reqVehicleHalt vehicle s)

/-- VEHICLE_RECOVER (R142). -/
def execVehicleRecover (vehicle node : Nat) (s : State) : Out := takenSettled (reqVehicleRecover vehicle node s)

/-- VEHICLE_HOME (R143). -/
def execVehicleHome (vehicle : Nat) (s : State) : Out := takenSettled (reqVehicleHome vehicle s)

/-- VEHICLE_QUERY (R146, R159, R179). -/
def execVehicleQuery (vehicle : Nat) (clearGaps : Option Bool) (s : State) : Out := takenServed (reqVehicleQuery vehicle clearGaps s)

end Sys2Proof.Machine
end

