-- ==== Sys2Proof/Machine/ExecEvent.lean ====
section
/-! DEFINITION. Meanings of the events: Hall Clock, field pins, timers and the Fleet Link. -/

namespace Sys2Proof.Machine

/-! ## Hall Clock and lanes -/

/-- HALL_SECOND (R191). -/
def execHallSecond (s : State) : Out := .next s.hallSecond.finish

/-- LANE_CLEAR_EXPIRY (R23). -/
def execLaneClearExpiry (lane : Fin 16) (s : State) : Out := .next (s.laneToIdle lane.val).finish

/-! ## Web, index pulses and buckets -/

/-- WEB_ADVANCE (R40): the counts of one tick at a press's encoder. -/
def execWebAdvance (press : Press) (counts : Nat) (s : State) : Out := .next (s.webAdvance press counts).finish

/-- WEB_COPY (R171): a remainder at or above the cut-off makes a web copy. -/
def execWebCopy (press : Press) (s : State) : Out :=
  .next (if s.cu[press].cutOff ≤ s.cu[press].remainder then s.modCount press CountRec.webCopy else s)

/-- Whether the fault distance of a stand can reach its limit (R47). -/
def State.mayIndexFault (s : State) (st : Stand) : Bool :=
  s.ssq[st].present && s.faultCounts st && !s.pju.stand[st].indexFault

/-- INDEX_FAULT (R47). -/
def execIndexFault (stand : Stand) (s : State) : Out :=
  .next (if s.mayIndexFault stand then (s.indexFaultAt stand).close else s)

/-- BUCKET_BOUNDARY (R41). -/
def execBucketBoundary (s : State) : Out := .next s.bucketBoundary.finish

/-- INDEX_PULSE (R44). -/
def execIndexPulse (stand : Stand) (arm : Arm) (s : State) : Out := .next (s.indexPulse stand arm).finish

/-- Whether a running measurement of a stand can be tested (R45, R46, R48). -/
def State.mayMeasure (s : State) (st : Stand) (m : Nat) : Bool :=
  s.ssq[st].present && s.ssq[st].running.isSome && s.ssq[st].state != .fault && decide (1 ≤ m) && decide (m ≤ 65535)

/-- MEASURE_RESET (R46): the third rejection in a row, of measurement `m`. -/
def execMeasureReset (stand : Stand) (measurement : Nat) (s : State) : Out :=
  .next (if s.mayMeasure stand measurement then (s.ringReset stand measurement).finish else s)

/-! ## Stand inputs and timers -/

/-- PREP_RISE (R67). -/
def execPrepRise (stand : Stand) (s : State) : Out := .next (s.prepRise stand).finish

/-- PASTED_RISE (R71, R72). -/
def execPastedRise (stand : Stand) (s : State) : Out := .next (s.pastedRise stand).finish

/-- BUTT_CLR_RISE (R73). -/
def execButtClrRise (stand : Stand) (s : State) : Out := .next (s.buttClear stand).finish

/-- ACCEL_TIMEOUT (R69). -/
def execAccelTimeout (stand : Stand) (s : State) : Out := .next (s.accelTimeout stand).finish

/-- PASTE_TIMEOUT (R72). -/
def execPasteTimeout (stand : Stand) (s : State) : Out := .next (s.pasteTimeout stand).finish

/-- EJECT_TIMEOUT (R73). -/
def execEjectTimeout (stand : Stand) (s : State) : Out := .next (s.ejectTimeout stand).close

/-! ## Press inputs -/

/-- PRESS_RUN_RISE (R63, R165). -/
def execPressRunRise (press : Press) (s : State) : Out := .next (s.runRise press).finish

/-- PRESS_RUN_FALL (R63, R165). -/
def execPressRunFall (press : Press) (s : State) : Out := .next (s.runFall press).finish

/-- BREAK_RISE (R165). -/
def execBreakRise (press : Press) (s : State) : Out := .next (s.modCount press (fun r => { r with breakMark := true }))

/-- The GATE level of a press as sampled at a COPY edge (R163). -/
def State.sampleGate (s : State) (p : Press) (gate : Bool) : State := s.setPins p { s.pins[p] with gate := gate }

/-- COPY_PULSE (R162). -/
def execCopyPulse (press : Press) (edge : PinEdge) (gate : Bool) (s : State) : Out :=
  .next ((s.sampleGate press gate).copyPulse press edge gate).close

/-- COPY_COMPLETE (R163): with the copy edge NONE no copy is made (R162). -/
def execCopyComplete (press : Press) (gate : Bool) (s : State) : Out :=
  .next (if s.cu[press].edge = .none then s else ((s.sampleGate press gate).completeCopy press gate).close)

/-! ## Fleet Link and vehicle timers -/

/-- POLL_CYCLE_START (R149). -/
def execPollCycleStart (s : State) : Out := .next s.pollCycle

/-- VISIT (R149). -/
def execVisit (vehicle : Vehicle) (s : State) : Out := .next (s.visitSlot vehicle)

/-- STATUS_FRAME (R153). -/
def execStatusFrame (bytes : List Byte) (gapless : Bool) (s : State) : Out := .next (s.statusFrame bytes gapless).finish

/-- The task of a vehicle that stands at a read of a pick (R132). -/
def State.readingTask? (s : State) (v : Vehicle) : Option TaskRec :=
  match s.vehTask? v with
  | some t => if s.fd.vehicles[v].phase = .reading ∧ t.kind ≠ .check then some t else none
  | none => none

/-- PICK_FAILED (R132): the fifth read has failed with this tag. -/
def execPickFailed (vehicle : Vehicle) (tag : Tag) (s : State) : Out :=
  match s.readingTask? vehicle with
  | some t => .next (((s.modTask t.id (fun t => { t with reads := 5 })).pickFailed vehicle t tag).finish)
  | none => .next s

/-- HOME_PASSAGE_LIMIT (R143). -/
def execHomePassageLimit (vehicle : Vehicle) (s : State) : Out :=
  .next (if s.fd.vehicles[vehicle].phase = .homing then
    ((s.modVeh vehicle (fun r => { r with passages := 32 })).homeFailed vehicle).finish else s)

/-- REPLY_WINDOW_EXPIRY (R153, R155). -/
def execReplyWindowExpiry (s : State) : Out := .next s.windowExpiry.finish

/-- LINK_LOSS (R155): the miss count of a reachable vehicle reaches 3, which it does only while its missed visits count: not in
SLEEP, nor with a WAKE that is not echoed. Whatever the count then is, the row is the moment itself (DEDUCED, log 8). -/
def execLinkLoss (vehicle : Vehicle) (s : State) : Out :=
  .next (if s.fd.vehicles[vehicle].enrolled && s.fd.vehicles[vehicle].reachable && s.missCounts vehicle then
    (s.linkLost vehicle).finish else s)

/-- WAKE_EXPIRY (R156). -/
def execWakeExpiry (vehicle : Vehicle) (s : State) : Out := .next (s.wakeExpiry vehicle).finish

/-- HOLD_TIMEOUT (R117). -/
def execHoldTimeout (vehicle : Vehicle) (s : State) : Out := .next (s.holdTimeout vehicle).close

/-- CHARGE_INTERVAL_EXPIRY (R136). -/
def execChargeIntervalExpiry (vehicle : Vehicle) (s : State) : Out := .next (s.chargeExpiry vehicle).finish

/-- TOP_UP_EXPIRY (R136, R137). -/
def execTopUpExpiry (vehicle : Vehicle) (s : State) : Out := .next (s.topUpExpiry vehicle).finish

/-- PARK_DELAY_EXPIRY (R138). -/
def execParkDelayExpiry (vehicle : Vehicle) (s : State) : Out := .next (s.parkExpiry vehicle).finish

/-- SLEEP_DELAY_EXPIRY (R139). -/
def execSleepDelayExpiry (vehicle : Vehicle) (s : State) : Out := .next (s.sleepExpiry vehicle).finish

end Sys2Proof.Machine
end

