-- ==== Sys2Proof/Machine/Dispatch.lean ====
section
/-! DEFINITION. Which meaning each command has: one arm per constructor of `Instr`, each one call. -/

namespace Sys2Proof.Machine

def exec (i : Instr) (s : State) : Host.Outcome State Fault Refusal :=
  match i with
  | .hardwareReset rate1 rate0 => Sys2Proof.Machine.execHardwareReset rate1 rate0 s
  | .frameComplete frame => Sys2Proof.Machine.execFrameComplete frame s
  | .rxGapTimeout => Sys2Proof.Machine.execRxGapTimeout s
  | .requestTake => Sys2Proof.Machine.execRequestTake s
  | .transmitDone => Sys2Proof.Machine.execTransmitDone s
  | .identify => Sys2Proof.Machine.execIdentify s
  | .timeSet time => Sys2Proof.Machine.execTimeSet time s
  | .resetMotion scope => Sys2Proof.Machine.execResetMotion scope s
  | .attention => Sys2Proof.Machine.execAttention s
  | .noticeMask masks enable => Sys2Proof.Machine.execNoticeMask masks enable s
  | .rollIn roll grade width caliper core label place => Sys2Proof.Machine.execRollIn roll grade width caliper core label place s
  | .rollEdit roll grade width caliper core label => Sys2Proof.Machine.execRollEdit roll grade width caliper core label s
  | .rollHold roll => Sys2Proof.Machine.execRollHold roll s
  | .rollFree roll => Sys2Proof.Machine.execRollFree roll s
  | .rollClose roll => Sys2Proof.Machine.execRollClose roll s
  | .rollQuery roll => Sys2Proof.Machine.execRollQuery roll s
  | .gradeSet grade minutes => Sys2Proof.Machine.execGradeSet grade minutes s
  | .laneSet lane rolls => Sys2Proof.Machine.execLaneSet lane rolls s
  | .laneBlock lane => Sys2Proof.Machine.execLaneBlock lane s
  | .laneUnblock lane => Sys2Proof.Machine.execLaneUnblock lane s
  | .laneRelease lane => Sys2Proof.Machine.execLaneRelease lane s
  | .laneQuery lane => Sys2Proof.Machine.execLaneQuery lane s
  | .storeConfig depths clearTime => Sys2Proof.Machine.execStoreConfig depths clearTime s
  | .storeQuery => Sys2Proof.Machine.execStoreQuery s
  | .baySet bay content => Sys2Proof.Machine.execBaySet bay content s
  | .doorConfig door limit window => Sys2Proof.Machine.execDoorConfig door limit window s
  | .doorQuery door => Sys2Proof.Machine.execDoorQuery door s
  | .standConfig stand presence cfg => Sys2Proof.Machine.execStandConfig stand presence cfg s
  | .standAuto stand on => Sys2Proof.Machine.execStandAuto stand on s
  | .standSplice stand => Sys2Proof.Machine.execStandSplice stand s
  | .standThread stand => Sys2Proof.Machine.execStandThread stand s
  | .standResolve stand answer => Sys2Proof.Machine.execStandResolve stand answer s
  | .standEject stand => Sys2Proof.Machine.execStandEject stand s
  | .standAssign stand assignment => Sys2Proof.Machine.execStandAssign stand assignment s
  | .standWatch stand set => Sys2Proof.Machine.execStandWatch stand set s
  | .standQuery stand => Sys2Proof.Machine.execStandQuery stand s
  | .pressRelease press => Sys2Proof.Machine.execPressRelease press s
  | .pressFeedConfig estimate margin pickOverhead placeOverhead => Sys2Proof.Machine.execPressFeedConfig estimate margin pickOverhead placeOverhead s
  | .pressConfig press cfg => Sys2Proof.Machine.execPressConfig press cfg s
  | .edition press target allowance => Sys2Proof.Machine.execEdition press target allowance s
  | .plate press action => Sys2Proof.Machine.execPlate press action s
  | .countClear press => Sys2Proof.Machine.execCountClear press s
  | .runsQuery press => Sys2Proof.Machine.execRunsQuery press s
  | .pressQuery press => Sys2Proof.Machine.execPressQuery press s
  | .floorNode number kind escape => Sys2Proof.Machine.execFloorNode number kind escape s
  | .floorSegment number a b length attr direction => Sys2Proof.Machine.execFloorSegment number a b length attr direction s
  | .floorRoute number origin destination segments => Sys2Proof.Machine.execFloorRoute number origin destination segments s
  | .floorClear => Sys2Proof.Machine.execFloorClear s
  | .floorQuery form => Sys2Proof.Machine.execFloorQuery form s
  | .fleetStart => Sys2Proof.Machine.execFleetStart s
  | .fleetStop => Sys2Proof.Machine.execFleetStop s
  | .fleetConfig cfg => Sys2Proof.Machine.execFleetConfig cfg s
  | .fleetQuery => Sys2Proof.Machine.execFleetQuery s
  | .taskUnstack lane count deadline => Sys2Proof.Machine.execTaskUnstack lane count deadline s
  | .taskCheck lane deadline => Sys2Proof.Machine.execTaskCheck lane deadline s
  | .taskMove vehicle node drop deadline => Sys2Proof.Machine.execTaskMove vehicle node drop deadline s
  | .taskCancel task => Sys2Proof.Machine.execTaskCancel task s
  | .taskQuery form => Sys2Proof.Machine.execTaskQuery form s
  | .vehicleEnrol vehicle speed => Sys2Proof.Machine.execVehicleEnrol vehicle speed s
  | .vehicleRemove vehicle => Sys2Proof.Machine.execVehicleRemove vehicle s
  | .vehicleHalt vehicle => Sys2Proof.Machine.execVehicleHalt vehicle s
  | .vehicleRecover vehicle node => Sys2Proof.Machine.execVehicleRecover vehicle node s
  | .vehicleHome vehicle => Sys2Proof.Machine.execVehicleHome vehicle s
  | .vehicleQuery vehicle clearGaps => Sys2Proof.Machine.execVehicleQuery vehicle clearGaps s
  | .hallSecond => Sys2Proof.Machine.execHallSecond s
  | .laneClearExpiry lane => Sys2Proof.Machine.execLaneClearExpiry lane s
  | .webAdvance press counts => Sys2Proof.Machine.execWebAdvance press counts s
  | .webCopy press => Sys2Proof.Machine.execWebCopy press s
  | .indexFault stand => Sys2Proof.Machine.execIndexFault stand s
  | .bucketBoundary => Sys2Proof.Machine.execBucketBoundary s
  | .indexPulse stand arm => Sys2Proof.Machine.execIndexPulse stand arm s
  | .measureReset stand measurement => Sys2Proof.Machine.execMeasureReset stand measurement s
  | .prepRise stand => Sys2Proof.Machine.execPrepRise stand s
  | .pastedRise stand => Sys2Proof.Machine.execPastedRise stand s
  | .buttClrRise stand => Sys2Proof.Machine.execButtClrRise stand s
  | .pressRunRise press => Sys2Proof.Machine.execPressRunRise press s
  | .pressRunFall press => Sys2Proof.Machine.execPressRunFall press s
  | .breakRise press => Sys2Proof.Machine.execBreakRise press s
  | .accelTimeout stand => Sys2Proof.Machine.execAccelTimeout stand s
  | .pasteTimeout stand => Sys2Proof.Machine.execPasteTimeout stand s
  | .ejectTimeout stand => Sys2Proof.Machine.execEjectTimeout stand s
  | .copyPulse press edge gate => Sys2Proof.Machine.execCopyPulse press edge gate s
  | .copyComplete press gate => Sys2Proof.Machine.execCopyComplete press gate s
  | .pollCycleStart => Sys2Proof.Machine.execPollCycleStart s
  | .visit vehicle => Sys2Proof.Machine.execVisit vehicle s
  | .statusFrame bytes gapless => Sys2Proof.Machine.execStatusFrame bytes gapless s
  | .pickFailed vehicle tag => Sys2Proof.Machine.execPickFailed vehicle tag s
  | .homePassageLimit vehicle => Sys2Proof.Machine.execHomePassageLimit vehicle s
  | .replyWindowExpiry => Sys2Proof.Machine.execReplyWindowExpiry s
  | .linkLoss vehicle => Sys2Proof.Machine.execLinkLoss vehicle s
  | .wakeExpiry vehicle => Sys2Proof.Machine.execWakeExpiry vehicle s
  | .holdTimeout vehicle => Sys2Proof.Machine.execHoldTimeout vehicle s
  | .chargeIntervalExpiry vehicle => Sys2Proof.Machine.execChargeIntervalExpiry vehicle s
  | .topUpExpiry vehicle => Sys2Proof.Machine.execTopUpExpiry vehicle s
  | .parkDelayExpiry vehicle => Sys2Proof.Machine.execParkDelayExpiry vehicle s
  | .sleepDelayExpiry vehicle => Sys2Proof.Machine.execSleepDelayExpiry vehicle s
  | .rxByte byte => Sys2Proof.Machine.execRxByte byte s
  | .rxFramingError => Sys2Proof.Machine.execRxFramingError s

end Sys2Proof.Machine
end

