-- ==== Sys2Proof/Safety.lean ====
section
/-! DEFINITION. What a sound state of the part is, block by block: the ranges and relations that the spec gives its fields and
that every step keeps; and what it is for a task to give back its bays and to have its end raised. -/

namespace Sys2Proof.Machine

/-- A bay that a task names, as its reserved bay or as its destination, and that is RESERVED for it (R31, R91, R127, R135). -/
def TaskRec.HasBay (t : TaskRec) (s : State) (b : Fin 8) : Prop :=
  (t.bay = some b ∨ t.dest = some (.bay b)) ∧ s.su.bays[b].state = .reserved t.id

/-- From `s` to `u` a task has given back every bay that was RESERVED for it (R31, R126). -/
def TaskRec.BaysFreed (t : TaskRec) (s u : State) : Prop := ∀ b : Fin 8, t.HasBay s b → u.su.bays[b].state = .free

/-- The end of a vehicle's task with a result has been raised on the vehicle's source: TASK_DONE or TASK_FAILED (R126, R177). -/
def State.EndRaised (u : State) (v : Vehicle) (res : TaskResult) : Prop :=
  u.nu.entries[srcVeh v].pending.getLsbD (if res = .done then 0 else 1) = true

/-- Every reason of `a` is one of `b`. -/
def within (a b : ReasonSet) : Prop := a &&& ~~~b = 0

/-- Notices: seen reasons are pending (R176), pending reasons and masks hold reasons of the source's kind only (R180). -/
def NoticeUnit.Ok (nu : NoticeUnit) : Prop :=
  (∀ i : Fin 44, within nu.entries[i].seen nu.entries[i].pending ∧ within nu.entries[i].pending (kindSet (kindOf i))) ∧
    ∀ k : Fin 6, within nu.masks[k] (kindSet k)

/-- A receiver state's byte counts (R184, R185). -/
def Rx.Ok : Rx → Prop
  | .hunt | .length _ => True
  | .body n got => 2 ≤ n ∧ n ≤ 1024 ∧ got.length < n
  | .check got _ => 2 ≤ got.length ∧ got.length ≤ 1024

/-- Control Line: 2 buffered frames and 2 replies at most (R186), the receiver's counts in range. -/
def LinePort.Ok (p : LinePort) : Prop := p.buffer.length ≤ 2 ∧ p.replies.length ≤ 2 ∧ p.rx.Ok

/-- A scope's counters: gross is good and waste, waste is the five reasons (R160), and no counter passes its limit. -/
def Scope.Ok (c : Scope) : Prop :=
  c.gross = c.good + c.waste ∧ c.waste = c.brk + c.startup + c.splice + c.plate + c.other ∧ c.gross ≤ 4294967295 ∧
    c.web ≤ 4294967295

/-- Count record: both scopes sound, the configuration in range (R161), the prescaler below the pulses per copy (R162), 16
runs at most of which only the newest may be open (R169), one splice at most of a stand, none stamped ahead of the totals
(R166). -/
def CountRec.Ok (r : CountRec) : Prop :=
  r.totals.Ok ∧ r.edition.Ok ∧ r.edition.gross ≤ r.totals.gross ∧
  (400 ≤ r.cutOff ∧ r.cutOff ≤ 700) ∧ (1 ≤ r.pulses ∧ r.pulses ≤ 4) ∧ (∀ n, r.pendPulses = some n → 1 ≤ n ∧ n ≤ 4) ∧
  r.window ≤ 2000 ∧ r.prescaler < r.pulses ∧
  r.ring.length ≤ 16 ∧ (∀ x ∈ r.ring.dropLast, x.isOpen = false) ∧ r.lastRun ≤ 65535 ∧
  (r.splices.map (·.stand)).Nodup ∧ ∀ e ∈ r.splices, e.stamp ≤ r.totals.gross

/-- Press projection record: the encoder scale in force and pending in range (R42), the carry below the scale (R40), ten
completed buckets and a speed within its limit (R39, R41). -/
def PressProj.Ok (r : PressProj) : Prop :=
  (500 ≤ r.scale ∧ r.scale ≤ 4000) ∧ (∀ k, r.pendScale = some k → 500 ≤ k ∧ k ≤ 4000) ∧ r.carry < r.scale ∧
  r.position < 4294967296 ∧ r.buckets.length = 10 ∧ r.speed ≤ 20000

/-- Splice reserve, minimum reserve and accel lead in range (R59). -/
def Reserves.Ok (r : Reserves) : Prop :=
  (20 ≤ r.reserve ∧ r.reserve ≤ 600) ∧ (5 ≤ r.minReserve ∧ r.minReserve + 5 ≤ r.reserve) ∧ (10 ≤ r.lead ∧ r.lead ≤ 120)

/-- Stand projection record: reserves in range in force and pending, 4 measurements at most, 2 rejections in a row at most,
a fault distance of 5,000 mm at most (R43, R46, R47, R51). -/
def StandProj.Ok (r : StandProj) : Prop :=
  r.force.Ok ∧ (∀ x, r.pend = some x → x.Ok) ∧ r.ring.length ≤ 4 ∧ r.rejects ≤ 2 ∧ r.faultDist ≤ 5000

/-- Projection Unit. -/
def ProjectionUnit.Ok (p : ProjectionUnit) : Prop := (∀ k : Press, p.press[k].Ok) ∧ ∀ st : Stand, p.stand[st].Ok

/-- Stand configuration in range (R59). -/
def StandCfg.Ok (c : StandCfg) : Prop :=
  c.reserves.Ok ∧ (5 ≤ c.accelLimit ∧ c.accelLimit ≤ 60) ∧ (30 ≤ c.prepTime ∧ c.prepTime ≤ 900) ∧
  (1 ≤ c.matchWindow ∧ c.matchWindow ≤ 50) ∧ (200 ≤ c.pasteCycle ∧ c.pasteCycle ≤ 3000) ∧
  (5 ≤ c.ejectLimit ∧ c.ejectLimit ≤ 120)

/-- Store configuration in range: conditioning times (R9), lane count, depths and clear time (R20, R29), door limits and
windows (R34). -/
def StoreUnit.ConfigOk (su : StoreUnit) : Prop :=
  (∀ g : Fin 16, su.grades[g] ≤ 4320) ∧ su.lanes.length ≤ 16 ∧ (∀ r ∈ su.lanes, 1 ≤ r.depth ∧ r.depth ≤ 24) ∧
  (1 ≤ su.clearTime ∧ su.clearTime ≤ 30) ∧
  ∀ d : Fin 2, (1 ≤ su.doors[d].limit ∧ su.doors[d].limit ≤ 12) ∧ (30 ≤ su.doors[d].window ∧ su.doors[d].window ≤ 1800)

/-- Feed configuration in range (R101). -/
def FeedPlanner.ConfigOk (fp : FeedPlanner) : Prop :=
  (30 ≤ fp.estimate ∧ fp.estimate ≤ 1800) ∧ (10 ≤ fp.margin ∧ fp.margin ≤ 600) ∧
  (10 ≤ fp.pickOverhead ∧ fp.pickOverhead ≤ 300) ∧ (10 ≤ fp.placeOverhead ∧ fp.placeOverhead ≤ 300)

/-- Fleet configuration in range (R145), nominal speeds too (R122). -/
def FleetDispatcher.ConfigOk (fd : FleetDispatcher) : Prop :=
  (10 ≤ fd.holdTimeout ∧ fd.holdTimeout ≤ 600) ∧ (10 ≤ fd.parkDelay ∧ fd.parkDelay ≤ 3600) ∧
  (60 ≤ fd.sleepDelay ∧ fd.sleepDelay ≤ 14400) ∧ (5 ≤ fd.chargeInterval ∧ fd.chargeInterval ≤ 60) ∧
  (1 ≤ fd.topUpPeriod ∧ fd.topUpPeriod ≤ 10) ∧
  ∀ v : Vehicle, 300 ≤ fd.vehicles[v].speed ∧ fd.vehicles[v].speed ≤ 2000

/-- Every configuration value of the part lies in the range its rule gives. -/
def State.ConfigOk (s : State) : Prop :=
  s.su.ConfigOk ∧ (∀ st : Stand, s.ssq[st].cfg.Ok) ∧ s.fp.ConfigOk ∧ s.fd.ConfigOk

/-- Charge reckoning: the balance lies in −4 … +8, a vehicle is barred exactly when it is 8, and one without task in IDLE or DOZE
with a balance of 6 or more has charge due (R136). -/
def State.ChargeOk (s : State) : Prop :=
  ∀ v : Vehicle, (-4 ≤ s.fd.vehicles[v].balance ∧ s.fd.vehicles[v].balance ≤ 8) ∧
    (s.fd.vehicles[v].barred = true ↔ s.fd.vehicles[v].balance = 8) ∧
    (s.fd.vehicles[v].task = none → s.fd.vehicles[v].state = some .idle ∨ s.fd.vehicles[v].state = some .doze →
      6 ≤ s.fd.vehicles[v].balance → s.fd.vehicles[v].chargeDue = true)

/-- Task Queue: 32 tasks at most, with ids 1–65,535 of which no two are the same (R125). -/
def FleetDispatcher.QueueOk (fd : FleetDispatcher) : Prop :=
  fd.tasks.length ≤ 32 ∧ (fd.tasks.map (·.id)).Nodup ∧ (∀ t ∈ fd.tasks, 1 ≤ t.id ∧ t.id ≤ 65535) ∧ fd.lastId ≤ 65535

/-- Store tables: 512 roll records at most, under ascending roll numbers, none of them 0 (R3, R7); no lane holds more rolls
than its depth (R20). -/
def StoreUnit.TablesOk (su : StoreUnit) : Prop :=
  su.rolls.length ≤ 512 ∧ su.rolls.Pairwise (fun x y => x.num < y.num) ∧ (∀ r ∈ su.rolls, r.num ≠ 0) ∧
    ∀ l ∈ su.lanes, l.list.length ≤ l.depth

/-- Roll record: the label's fields in range, a remaining length of the label length at most, stripped and butt lengths and the
copy counts within their limits (R4, R16, R19). -/
def RollRec.Ok (r : RollRec) : Prop :=
  r.grade ≤ 15 ∧ (40 ≤ r.caliper ∧ r.caliper ≤ 150) ∧ (70 ≤ r.core ∧ r.core ≤ 200) ∧
  (100 ≤ r.label ∧ r.label ≤ 40000) ∧ r.remaining ≤ r.label * 1000 ∧ (∀ n, r.stripped = some n → n ≤ 40000) ∧
  (∀ n, r.butt = some n → n ≤ 40000) ∧ r.good ≤ 4294967295 ∧ r.waste ≤ 4294967295 ∧ r.spliceWaste ≤ 4294967295

/-- A roll's state, location and reservation agree (R5). -/
def RollRec.Agrees (r : RollRec) : Prop :=
  match r.state, r.loc with
  | .conditioning, .lane _ _ | .conditioning, .bay _ | .ready, .lane _ _ | .ready, .bay _ => r.reservation = none
  | .reserved, .lane _ _ | .reserved, .bay _ => r.reservation ≠ none
  | .carried, .vehicle _ => True
  | .standby, .stand _ _ => r.reservation ≠ none
  | .running, .stand _ _ | .butt, .stand _ _ => r.reservation = none
  | .spent, .none => r.reservation = none
  | _, _ => False

/-- The location of the roll with a number. -/
def State.locOf (s : State) (n : Nat) : Option Loc := (s.roll? n).map (·.loc)

/-- Every place's collection and the roll records agree (R5): lane lists, bays, vehicle loads and stand arms name exactly the
rolls located there, under one record for each number. A vehicle not enrolled carries nothing (R144). -/
def State.PlacesOk (s : State) : Prop :=
  s.su.TablesOk ∧ (∀ r ∈ s.su.rolls, r.Agrees) ∧
  (∀ l d n : Nat, (s.su.laneList l)[d]? = some n ↔ s.locOf n = some (.lane l d)) ∧
  (∀ (b : Fin 8) (n : Nat), s.su.bays[b].state = .occupied n ↔ s.locOf n = some (.bay b)) ∧
  (∀ (v : Vehicle) (n : Nat), s.fd.vehicles[v].load = some n ↔ s.locOf n = some (.vehicle v)) ∧
  (∀ v : Vehicle, s.fd.vehicles[v].enrolled = false → s.fd.vehicles[v].load = none) ∧
  ∀ (st : Stand) (arm : Arm) (n : Nat), s.ssq[st].armRoll arm = some n ↔ s.locOf n = some (.stand st arm)

/-- A stand's record and its rolls agree with its state (R61, R62, R65 to R80): the running arm, when there is one, holds a
RUNNING roll, and without one arm B is empty; the standby arm and the loading vehicle are as the state has them; the fault
part is present in FAULT only; the timer's purpose is ACCEL in ACCELERATING, PASTE in PASTING, and EJECT only over a BUTT
roll. -/
def State.StandOk (s : State) (st : Stand) : Prop :=
  let r := s.ssq[st]
  let standby := r.standbyRoll?
  (r.present = false → r.state = .empty) ∧
  (∀ arm, r.running = some arm → ∃ n, r.armRoll arm = some n ∧ s.su.rollState? n = some .running) ∧
  (r.running = none → r.armB = none) ∧
  (r.fault.isSome ↔ r.state = .fault) ∧
  ((∃ e, r.timer = some (.accel, e)) ↔ r.state = .accelerating) ∧
  ((∃ e, r.timer = some (.paste, e)) ↔ r.state = .pasting) ∧
  ((∃ e, r.timer = some (.eject, e)) → s.standbyHolds st .butt = true) ∧
  match r.state with
  | .empty => r.running = none ∧ standby = none ∧ r.loading = none
  | .single => r.running.isSome ∧ standby = none ∧ r.loading = none
  | .butt => s.standbyHolds st .butt = true ∧ r.loading = none
  | .loading => standby = none ∧ r.loading.isSome
  | .preparing | .armed => s.standbyHolds st .standby = true ∧ r.loading = none
  | .accelerating | .matched | .pasting | .fault =>
    r.running.isSome ∧ s.standbyHolds st .standby = true ∧ r.loading = none
  | .runout => r.running.isSome ∧
    (standby = none ∨ (r.loading = none ∧ (s.standbyHolds st .standby = true ∨ s.standbyHolds st .butt = true)))

/-- Every stand is sound. -/
def State.StandsOk (s : State) : Prop := ∀ st : Stand, s.StandOk st

/-- Link record: order count, miss count, last event and sequence gaps in range (R148). -/
def LinkRec.Ok (r : LinkRec) : Prop :=
  r.count < 16 ∧ r.misses ≤ 3 ∧ (∀ k, r.lastEvent = some k → k < 16) ∧ r.gaps ≤ 255

/-- Fleet Link: every record in range, the cycle number 0–7. -/
def FleetLink.Ok (fl : FleetLink) : Prop := fl.cycle < 8 ∧ ∀ v : Vehicle, fl.links[v].Ok

/-- The records of every block lie in the ranges their rules give: configuration, charge reckoning, rolls, projection, counts,
Control Line, Fleet Link, notices, and a homing vehicle's 32 passages at most (R143). -/
def State.RangesOk (s : State) : Prop :=
  s.ConfigOk ∧ s.ChargeOk ∧ (∀ r ∈ s.su.rolls, r.Ok) ∧ (∀ v : Vehicle, s.fd.vehicles[v].passages ≤ 32) ∧ s.pju.Ok ∧
  (∀ p : Press, s.cu[p].Ok) ∧ s.clp.Ok ∧ s.fl.Ok ∧ s.nu.Ok

/-- A run as the plan cuts it: it drives each of its segments once and ends at another node than its first (R109, R111). -/
def Run.Ok (r : Run) : Prop := (r.segs.map (·.seg)).Nodup ∧ r.start ≠ r.stop

/-- Locks: a granted run is sound, and its vehicle holds every segment it has still to pass and the run's end node (R108, R112,
R114); a waiting run is sound; runs wait in RUNNING only (R110, R111); outside STOPPED every route passes the checks of
R109. -/
def State.LocksOk (s : State) : Prop :=
  (∀ (v : Vehicle) (g : Granted), s.lu.runs[v] = some g → g.run.Ok ∧ s.lu.nodeLocks[g.run.stop] = some v ∧
    ∀ x ∈ g.run.segs.drop g.passed, s.lu.segLocks[x.seg] = some v) ∧
  (∀ e ∈ s.lu.waits, e.run.Ok) ∧ (s.fd.fleet ≠ .running → s.lu.waits = []) ∧
  (s.fd.fleet ≠ .stopped → ∀ k : Route, s.lu.checkRoute k = none)

end Sys2Proof.Machine
end

