-- ==== Sys2Proof/Certificates/Slice0/Obligations.lean ====
section
/-! DEFINITION. The statements about the model, chapter by chapter. `u.finish` is the end of a command that hands work to
other blocks: the hand-offs of `u` are taken, the fleet's stop condition is examined and a free transmitter is served;
`u.close` is the end of one that only raises: a free transmitter is served. -/

open Sys2Proof Sys2Proof.Machine

/-! ## The queue of commands, the clock, hardware reset -/

/-- A step takes the command at the front of the queue and runs it on the state with the queue's rest. -/
def Obligations.StepRunsTheFrontCommand : Prop :=
  ∀ (c : Instr) (cs : List Instr) (s : State), s.pending = c :: cs → step s = exec c { s with pending := cs }

/-- Every command answers a next state, keeps the queue, and, but for a hardware reset, keeps the tick count. The hand-offs at
its end keep the clock, the pins, the projection, the counts and the received frames, move no roll, and write of a roll record
its state and reservation only. -/
def Obligations.EveryCommandRunsAndHandOffsKeepTheFrame : Prop :=
  (∀ (c : Instr) (s : State), ∃ t, exec c s = .next t ∧ t.pending = s.pending ∧
    ((∀ a b, c ≠ .hardwareReset a b) → t.clk.tick = s.clk.tick)) ∧
  ∀ u : State, ∃ t : State, t = u.finish ∧ t.clk = u.clk ∧ t.pins = u.pins ∧ t.pju = u.pju ∧ t.cu = u.cu ∧
    t.pending = u.pending ∧ t.clp.rx = u.clp.rx ∧ t.clp.buffer = u.clp.buffer ∧ t.clp.lastReply = u.clp.lastReply ∧
    (∀ n, u.roll? n = none → t.roll? n = none) ∧
    (∀ n r, u.roll? n = some r → ∃ r', t.roll? n = some r' ∧
      r' = { r with state := r'.state, reservation := r'.reservation }) ∧
    (∀ l, t.su.laneList l = u.su.laneList l) ∧ (∀ v : Vehicle, t.fd.vehicles[v].load = u.fd.vehicles[v].load) ∧
    ∀ st : Stand, t.ssq[st].armA = u.ssq[st].armA ∧ t.ssq[st].armB = u.ssq[st].armB ∧
      t.ssq[st].running = u.ssq[st].running

/-- With no command waiting a step is one tick. What is due then happens in a fixed order (DESIGN CHOICE, log 4), the hand-offs
are followed and a buffered request is taken (R186). Each due event is the one its own command is, at its own tick: a late byte
(R185), the clear expiry of a lane (R23), the sequence timers (R69, R72, R73), the reply window (R153), the wake expiry (R156),
the hold timeout (R117), the interval and top-up times, which count ticks (R136), a bucket at every 100th tick (R41), a poll cycle
at every 400th and the slot of vehicle n 32 × n ticks into it (R149), a hall second at every 1,000th (R191), at which the park and
sleep delays are tested (R138, R139; DEDUCED, log 30). Before its tick nothing happens. Hall time stops at its limit. -/
def Obligations.AnIdleStepIsOneTick : Prop :=
  (∀ s : State, s.pending = [] →
    let lanes := (List.range s.su.lanes.length).foldl State.dueLane
      ({ s with clk := { s.clk with tick := s.clk.tick + 1 } } : State).dueGap
    let waits := (List.finRange 12).foldl State.dueWake ((List.finRange 24).foldl State.dueStand lanes).dueWindow
    let charge := (List.finRange 12).foldl State.dueInterval ((List.finRange 12).foldl State.dueHold waits)
    step s = exec .requestTake
      ((List.finRange 12).foldl State.dueTopUp charge).dueBucket.dueCycle.dueVisit.dueSecond.finish ∧
    (s.clp.buffer = [] → ∃ t, step s = .next t ∧ t.pending = [] ∧ t.clk.tick = s.clk.tick + 1 ∧
      t.clk.hall = if (s.clk.tick + 1) % 1000 = 0 then min 4294967295 (s.clk.hall + 1) else s.clk.hall)) ∧
  ∀ s : State,
    let tick := s.clk.tick
    (s.clp.rx ≠ .hunt → 5 < tick - s.clp.rxTick → exec .rxGapTimeout s = .next s.dueGap) ∧
    (s.clp.rx = .hunt ∨ tick - s.clp.rxTick ≤ 5 → s.dueGap = s) ∧
    (∀ l : Fin 16,
      (∀ lane e, s.su.lanes[l.val]? = some lane → lane.motion = .clearing e → e ≤ tick →
        exec (.laneClearExpiry l) s = .next (s.dueLane l.val).finish) ∧
      ((∀ lane e, s.su.lanes[l.val]? = some lane → lane.motion = .clearing e → tick < e) → s.dueLane l.val = s)) ∧
    (∀ st : Stand,
      (∀ e, s.ssq[st].timer = some (.accel, e) → e ≤ tick → exec (.accelTimeout st) s = .next (s.dueStand st).finish) ∧
      (∀ e, s.ssq[st].timer = some (.paste, e) → e ≤ tick → exec (.pasteTimeout st) s = .next (s.dueStand st).finish) ∧
      (∀ e, s.ssq[st].timer = some (.eject, e) → e ≤ tick → exec (.ejectTimeout st) s = .next (s.dueStand st).close) ∧
      ((∀ p e, s.ssq[st].timer = some (p, e) → tick < e) → s.dueStand st = s)) ∧
    (∀ x, s.fl.visit = some x → x.closes ≤ tick → exec .replyWindowExpiry s = .next s.dueWindow.finish) ∧
    ((∀ x, s.fl.visit = some x → tick < x.closes) → s.dueWindow = s) ∧
    (tick % 100 = 0 → exec .bucketBoundary s = .next s.dueBucket.finish) ∧ (tick % 100 ≠ 0 → s.dueBucket = s) ∧
    (tick % 400 = 0 → exec .pollCycleStart s = .next s.dueCycle) ∧ (tick % 400 ≠ 0 → s.dueCycle = s) ∧
    (∀ v : Vehicle, 400 ≤ tick → tick % 400 = 32 * v.val → exec (.visit v) s = .next s.dueVisit) ∧
    (tick < 400 ∨ (∀ v : Vehicle, tick % 400 ≠ 32 * v.val) → s.dueVisit = s) ∧
    (tick % 1000 = 0 → exec .hallSecond s = .next s.hallSecond.finish ∧
      s.dueSecond = (List.finRange 12).foldl State.dueSleep ((List.finRange 12).foldl State.duePark s.hallSecond)) ∧
    (tick % 1000 ≠ 0 → s.dueSecond = s) ∧
    ∀ v : Vehicle,
      let r := s.fd.vehicles[v]
      let counts := fun (x : VehRec) => ({ s with fd := { s.fd with vehicles := s.fd.vehicles.set v x } } : State)
      let owes : Prop := r.enrolled = true ∧ r.state ≠ some .charging ∧ r.state ≠ some .sleep
      let draws : Prop := r.state = some .charging ∧ ∃ x, s.fl.links[v].status = some x ∧ x.charging = true
      let parks : Prop := r.state = some .idle ∧ r.parkWait = false ∧ s.fd.parkDelay ≤ s.clk.hall - r.delayFrom
      let sleeps : Prop := r.state = some .doze ∧ r.sleepTested = false ∧ s.fd.sleepDelay ≤ s.clk.hall - r.delayFrom
      (∀ e, s.fl.links[v].wakeExpiry = some e → e ≤ tick → exec (.wakeExpiry v) s = .next (s.dueWake v).finish) ∧
      ((∀ e, s.fl.links[v].wakeExpiry = some e → tick < e) → s.dueWake v = s) ∧
      (∀ e, s.lu.waiting? v = some e → s.fd.holdTimeout * 1000 ≤ tick - e.since →
        exec (.holdTimeout v) s = .next (s.dueHold v).close) ∧
      ((∀ e, s.lu.waiting? v = some e → tick - e.since < s.fd.holdTimeout * 1000) → s.dueHold v = s) ∧
      (¬owes → s.dueInterval v = s) ∧
      (owes → r.interval + 1 < s.fd.chargeInterval * 60000 → s.dueInterval v = counts { r with interval := r.interval + 1 }) ∧
      (owes → s.fd.chargeInterval * 60000 ≤ r.interval + 1 →
        exec (.chargeIntervalExpiry v) s = .next (s.dueInterval v).finish) ∧
      (¬draws → s.dueTopUp v = s) ∧
      (draws → r.topUp + 1 < s.fd.topUpPeriod * 60000 → s.dueTopUp v = counts { r with topUp := r.topUp + 1 }) ∧
      (draws → s.fd.topUpPeriod * 60000 ≤ r.topUp + 1 → exec (.topUpExpiry v) s = .next (s.dueTopUp v).finish) ∧
      (parks → exec (.parkDelayExpiry v) s = .next (s.duePark v).finish) ∧ (¬parks → s.duePark v = s) ∧
      (sleeps → exec (.sleepDelayExpiry v) s = .next (s.dueSleep v).finish) ∧ (¬sleeps → s.dueSleep v = s)

/-- After a hardware reset: empty tables and locks, default configuration of every block, full masks with the enable off, every
output deasserted, the line speed of the RATE pins; the commands that wait stay. -/
def Obligations.HardwareResetGivesTheResetState : Prop :=
  ∀ (rate1 rate0 : Bool) (s : State), ∃ t, exec (.hardwareReset rate1 rate0) s = .next t ∧
    t.clk.tick = 0 ∧ t.clk.hall = 0 ∧ t.pending = s.pending ∧
    t.clp.rate.val = 2 * rate1.toNat + rate0.toNat ∧
    t.clp.rx = .hunt ∧ t.clp.buffer = [] ∧ t.clp.replies = [] ∧ t.clp.tx = none ∧
    t.su.rolls = [] ∧ t.su.lanes = [] ∧ t.su.clearTime = 4 ∧ (∀ g : Fin 16, t.su.grades[g] = 480) ∧
    (∀ b : Fin 8, t.su.bays[b] = ⟨.free, false, none⟩) ∧
    (∀ d : Fin 2, t.su.doors[d] = ⟨6, 300, [], none, [], [], false⟩) ∧
    (∀ p : Press, t.pju.press[p].scale = 1000 ∧ t.pju.press[p].position = 0 ∧ t.pju.press[p].speed = 0) ∧
    (∀ st : Stand, t.ssq[st].present = false ∧ t.ssq[st].cfg = ⟨80, 30, 40, 25, 180, 5, 800, 60⟩ ∧ t.ssq[st].state = .empty ∧
      t.ssq[st].auto = false ∧ t.ssq[st].assignment = none ∧ t.pju.stand[st].force = ⟨80, 30, 40⟩ ∧
      t.pju.stand[st].pend = none ∧ t.pju.stand[st].time = none ∧ t.fp.stands[st].task = none ∧ t.fp.stands[st].hold = false) ∧
    (t.fp.estimate = 300 ∧ t.fp.margin = 60 ∧ t.fp.pickOverhead = 60 ∧ t.fp.placeOverhead = 45) ∧
    (∀ n : Node, t.lu.nodes[n] = none ∧ t.lu.nodeLocks[n] = none) ∧
    (∀ g : Seg, t.lu.segs[g] = none ∧ t.lu.segLocks[g] = none) ∧ (∀ k : Route, t.lu.routes[k] = none) ∧
    (t.fd.holdTimeout = 90 ∧ t.fd.parkDelay = 120 ∧ t.fd.sleepDelay = 900 ∧ t.fd.chargeInterval = 15 ∧
      t.fd.topUpPeriod = 3) ∧
    t.fd.tasks = [] ∧ t.fd.fleet = .stopped ∧
    (∀ v : Vehicle, t.fd.vehicles[v].enrolled = false ∧ t.fl.links[v].order = none ∧ t.lu.runs[v] = none) ∧
    t.lu.waits = [] ∧ t.fl.cycle = 0 ∧ t.fl.visit = none ∧
    (∀ p : Press, t.cu[p].totals.gross = 0 ∧ t.cu[p].edition.gross = 0 ∧ t.cu[p].ring = [] ∧ t.cu[p].splices = [] ∧
      t.cu[p].cutOff = 560 ∧ t.cu[p].pulses = 1 ∧ t.cu[p].edge = .rising ∧ t.cu[p].polarity = .wasteHigh ∧
      t.cu[p].window = 300 ∧ t.cu[p].pendPulses = none ∧ t.cu[p].pendEdge = none) ∧
    (∀ i : Fin 44, t.nu.entries[i] = ⟨0, 0, false, false⟩) ∧ t.nu.masks = #v[0x7, 0xF, 0x1, 0x7F, 0xFFF, 0x7F] ∧
    t.nu.enable = false ∧
    (∀ p : Press, t.slowOut p = false ∧ t.stopOut p = false) ∧
    (∀ st : Stand, t.accelOut st = false ∧ t.pasteOut st = false ∧ t.ejectOut st = false) ∧
    (∀ d : Fin 2, t.doorOut d = false) ∧ t.fleetDriveOut = false

/-! ## Control Line -/

/-- R185, every row of its table, the late byte, the framing error, and a complete frame met by a full buffer. RX_GAP_TIMEOUT is
the moment itself: it drops the partial frame in every state, whatever the tick count (DEDUCED, log 8). FRAME_COMPLETE only
buffers the frame, which REQUEST_TAKE takes (DESIGN CHOICE, log 3). -/
def Obligations.ReceiverTakesBytesByItsState : Prop :=
  (∀ rate, (LinePort.reset rate).rx = .hunt) ∧
  ∀ (s : State) (b : Byte),
    let answer := fun (x : Rx) (buf : List ClFrame) =>
      (Host.Outcome.next { s with clp := { s.clp with rx := x, rxTick := s.clk.tick, buffer := buf } } : Out)
    let late := s.clp.rx ≠ .hunt ∧ 5 < s.clk.tick - s.clp.rxTick
    let dropped : Out := .next { s with clp := { s.clp with rx := .hunt } }
    (s.clp.rx = .hunt ∨ late →
      exec (.rxByte b) s = answer (if b = 0xA5 then .length none else .hunt) s.clp.buffer) ∧
    (s.clp.rx = .length none ∧ ¬late → exec (.rxByte b) s = answer (.length (some b)) s.clp.buffer) ∧
    (∀ lo : Byte, s.clp.rx = .length (some lo) ∧ ¬late →
      exec (.rxByte b) s =
        answer (if 2 ≤ lo.toNat + 256 * b.toNat ∧ lo.toNat + 256 * b.toNat ≤ 1024 then
          .body (lo.toNat + 256 * b.toNat) [] else .hunt) s.clp.buffer) ∧
    (∀ n got, s.clp.rx = .body n got ∧ ¬late →
      exec (.rxByte b) s =
        answer (if got.length + 1 < n then .body n (got ++ [b]) else .check (got ++ [b]) none) s.clp.buffer) ∧
    (∀ got, s.clp.rx = .check got none ∧ ¬late → exec (.rxByte b) s = answer (.check got (some b)) s.clp.buffer) ∧
    (∀ kind tag payload hi, s.clp.rx = .check (kind :: tag :: payload) (some hi) ∧ ¬late →
      exec (.rxByte b) s = answer .hunt
        (if hi ++ b = crc16 (bytesLE 2 (payload.length + 2) ++ kind :: tag :: payload) ∧ s.clp.buffer.length < 2 then
          s.clp.buffer ++ [⟨kind, tag, payload⟩] else s.clp.buffer)) ∧
    exec .rxFramingError s = dropped ∧ exec .rxGapTimeout s = dropped ∧
    ∀ f : ClFrame, exec (.frameComplete f) s = .next { s with clp := { s.clp with
      rx := .hunt, buffer := if s.clp.buffer.length < 2 then s.clp.buffer ++ [f] else s.clp.buffer } }

/-- The oldest buffered frame is taken when the reply queue has room; its request runs on the state without the frame, and its
reply joins the back of the queue. That request is the command of the same name: `exec` answers the same state and reply, with the
transmitter served or the hand-offs followed where the command does so (DESIGN CHOICE, log 3). Nothing is taken otherwise. A kind
that the catalogue does not list is answered UNKNOWN_KIND, whatever its payload; a listed kind never is. The payload of every
listed kind (R187, R189), fields in the order of the owning rules: a payload of just that structure spells the request with its
operands, and any other, a wrong length, a presence byte above 1, a presence bit with no field or an unknown place, content, node
kind, attribute or form, is answered BAD_FRAME. An enumerated value that is none of its kind's values reaches the owning block as
unknown. Widths and numberings that R187 gives by its general rule only (the encoder scale's two bytes, the door limit's one, the
byte of UNSTACK's count and of the position of TASK QUERY, the numbers of PRESENT and ABSENT, PASTED_YES and PASTED_NO, SET and
CANCEL, and of the query forms) are DEDUCED (log 19). -/
def Obligations.RequestTakeAnswersTheOldestFrame : Prop :=
  (∀ s : State,
    (s.clp.buffer = [] ∨ 2 ≤ s.clp.replies.length → exec .requestTake s = .next s) ∧
    ∀ f fs, s.clp.buffer = f :: fs → s.clp.replies.length < 2 →
      let s0 : State := { s with clp := { s.clp with buffer := fs } }
      (∀ e, requestOf f = .inl e → exec .requestTake s = .next ({ s0 with clp := { s0.clp with
        replies := s.clp.replies ++ [replyFrame f ⟨e, []⟩], lastReply := some ⟨e, []⟩ } } : State).finish) ∧
      ∀ i, requestOf f = .inr i → ∃ t r, s0.request? i = some (t, r) ∧
        exec .requestTake s = .next ({ t with clp := { t.clp with
          replies := t.clp.replies ++ [replyFrame f r], lastReply := some r } } : State).finish) ∧
  (∀ (s : State) (i : Instr) (t : State) (r : Reply), s.request? i = some (t, r) →
    let answered : State := { t with clp := { t.clp with lastReply := some r } }
    exec i s = .next answered ∨ exec i s = .next answered.close ∨ exec i s = .next answered.finish) ∧
  (∀ f : ClFrame, requestOf f = .inl .unknownKind ↔
    f.kind.toNat ∉ [0x01, 0x02, 0x03, 0x04, 0x05, 0x10, 0x11, 0x12, 0x13, 0x14, 0x15, 0x16, 0x18, 0x19, 0x1A, 0x1B, 0x1C,
      0x1D, 0x1E, 0x1F, 0x20, 0x21, 0x30, 0x31, 0x32, 0x33, 0x34, 0x35, 0x36, 0x37, 0x38, 0x40, 0x41, 0x42, 0x43, 0x44,
      0x45, 0x46, 0x47, 0x50, 0x51, 0x52, 0x53, 0x54, 0x55, 0x56, 0x60, 0x61, 0x62, 0x63, 0x64, 0x65, 0x66, 0x67, 0x68,
      0x69, 0x6A, 0x6B, 0x6C]) ∧
  ∀ (tag : Byte) (bs : List Byte),
    let n := bs.length
    let x := fun (i k : Nat) => natLE ((bs.drop i).take k)
    let spells := fun (kind : Byte) (o : Option Instr) => requestOf ⟨kind, tag, bs⟩ = match o with
      | some i => .inr i
      | none => .inl .badFrame
    let fixed := fun (kind : Byte) (len : Nat) (i : Instr) => spells kind (if n = len then some i else none)
    let onOff := fun (k : Nat) => ([false, true] : List Bool)[k]?
    let width := fun (k : Nat) => ([.full, .threeQuarter, .half] : List WidthClass)[k]?
    let place := fun (i : Nat) => if x i 1 = 0 then PlaceArg.lane (x (i + 1) 1) else .bay (x (i + 1) 1)
    let last := fun (i k : Nat) => if x i 1 = 0 ∧ n = i + 1 then some none
      else if x i 1 = 1 ∧ n = i + 1 + k then some (some (x (i + 1) k)) else none
    let start := fun (i : Nat) (ws : List Nat) (j : Nat) =>
      i + 2 + ((List.range j).map (fun m => if (x i 2).testBit m then ws.getD m 0 else 0)).sum
    let named := fun (i : Nat) (ws : List Nat) (j : Nat) =>
      if (x i 2).testBit j then some (x (start i ws j) (ws.getD j 0)) else none
    let chosen := fun (kind : Byte) (i : Nat) (ws : List Nat) (c : Instr) =>
      spells kind (if x i 2 < 2 ^ ws.length ∧ n = start i ws ws.length then some c else none)
    fixed 0x01 0 .identify ∧ fixed 0x02 4 (.timeSet (x 0 4)) ∧ fixed 0x03 1 (.resetMotion (x 0 1)) ∧ fixed 0x04 0 .attention ∧
    spells 0x05 (
      let i := 1 + 3 * x 0 1
      let masks := (List.range (x 0 1)).map (fun j => (x (1 + 3 * j) 1, x (2 + 3 * j) 2))
      (last i 1).map (fun e => .noticeMask masks (e.map onOff))) ∧
    spells 0x10 (if n = 14 ∧ x 12 1 ≤ 1 then
      some (.rollIn (x 0 4) (x 4 1) (width (x 5 1)) (x 6 2) (x 8 2) (x 10 2) (some (place 12))) else none) ∧
    (let f := named 4 [1, 1, 2, 2, 2]
     chosen 0x11 4 [1, 1, 2, 2, 2] (.rollEdit (x 0 4) (f 0) ((f 1).map width) (f 2) (f 3) (f 4))) ∧
    fixed 0x12 4 (.rollHold (x 0 4)) ∧ fixed 0x13 4 (.rollFree (x 0 4)) ∧ fixed 0x14 4 (.rollClose (x 0 4)) ∧
    fixed 0x15 4 (.rollQuery (x 0 4)) ∧ fixed 0x16 3 (.gradeSet (x 0 1) (x 1 2)) ∧
    spells 0x18 (if n = 2 + 4 * x 1 1 then
      some (.laneSet (x 0 1) ((List.range (x 1 1)).map (fun j => x (2 + 4 * j) 4))) else none) ∧
    fixed 0x19 1 (.laneBlock (x 0 1)) ∧ fixed 0x1A 1 (.laneUnblock (x 0 1)) ∧ fixed 0x1B 1 (.laneRelease (x 0 1)) ∧
    fixed 0x1C 1 (.laneQuery (x 0 1)) ∧
    spells 0x1D (if n = 3 + x 0 1 then
      some (.storeConfig ((List.range (x 0 1)).map (fun j => x (1 + j) 1)) (x (1 + x 0 1) 2)) else none) ∧
    fixed 0x1E 0 .storeQuery ∧
    spells 0x1F (if n = 2 ∧ x 1 1 = 0 then some (.baySet (x 0 1) (some .keep))
      else if n = 2 ∧ x 1 1 = 1 then some (.baySet (x 0 1) (some .empty))
      else if n = 6 ∧ x 1 1 = 2 then some (.baySet (x 0 1) (some (.roll (x 2 4)))) else none) ∧
    (let f := named 1 [1, 2]
     chosen 0x20 1 [1, 2] (.doorConfig (x 0 1) (f 0) (f 1))) ∧
    fixed 0x21 1 (.doorQuery (x 0 1)) ∧
    (let f := named 2 [2, 2, 2, 2, 2, 1, 4, 2]
     chosen 0x30 2 [2, 2, 2, 2, 2, 1, 4, 2] (.standConfig (x 0 1) (([.present, .absent] : List Presence)[x 1 1]?)
       ⟨f 0, f 1, f 2, f 3, f 4, f 5, f 6, f 7⟩)) ∧
    fixed 0x31 2 (.standAuto (x 0 1) (onOff (x 1 1))) ∧ fixed 0x32 1 (.standSplice (x 0 1)) ∧
    fixed 0x33 1 (.standThread (x 0 1)) ∧
    fixed 0x34 2 (.standResolve (x 0 1) (([.pastedYes, .pastedNo] : List Resolve)[x 1 1]?)) ∧
    fixed 0x35 1 (.standEject (x 0 1)) ∧
    spells 0x36 (if n = 2 ∧ x 1 1 = 0 then some (.standAssign (x 0 1) none)
      else if n = 4 ∧ x 1 1 = 1 then some (.standAssign (x 0 1) (some (x 2 1, width (x 3 1)))) else none) ∧
    fixed 0x37 3 (.standWatch (x 0 1) (x 1 2)) ∧ fixed 0x38 1 (.standQuery (x 0 1)) ∧ fixed 0x40 1 (.pressRelease (x 0 1)) ∧
    (let f := named 0 [2, 2, 2, 2]
     chosen 0x41 0 [2, 2, 2, 2] (.pressFeedConfig (f 0) (f 1) (f 2) (f 3))) ∧
    (let f := named 1 [2, 2, 1, 1, 1, 2]
     chosen 0x42 1 [2, 2, 1, 1, 1, 2] (.pressConfig (x 0 1) ⟨f 0, f 1, f 2,
        (f 3).map (fun k => ([.none, .rising, .falling, .both] : List CopyEdge)[k]?),
        (f 4).map (fun k => ([.wasteHigh, .wasteLow] : List GatePolarity)[k]?), f 5⟩)) ∧
    fixed 0x43 9 (.edition (x 0 1) (x 1 4) (x 5 4)) ∧
    fixed 0x44 2 (.plate (x 0 1) (([.set, .cancel] : List PlateAction)[x 1 1]?)) ∧
    fixed 0x45 1 (.countClear (x 0 1)) ∧ fixed 0x46 1 (.runsQuery (x 0 1)) ∧ fixed 0x47 1 (.pressQuery (x 0 1)) ∧
    spells 0x50 (
      let kind : Option NodeKind := match x 1 1 with
        | 0 => some .plain
        | 1 => some .hold
        | 2 => some (.laneHead (x 2 1))
        | 3 => some (.bay (x 2 1))
        | 4 => some (.stand (x 2 1))
        | 5 => some .charger
        | 6 => some .park
        | 7 => some .home
        | _ => none
      kind.bind (fun k => (last (if 2 ≤ x 1 1 ∧ x 1 1 ≤ 4 then 3 else 2) 1).map (fun e => .floorNode (x 0 1) (some k) e))) ∧
    spells 0x51 (
      let segment := fun (attr : SegAttr) (i : Nat) => (Instr.floorSegment (x 0 1) (x 1 1) (x 2 1) (x 3 2) (some attr)
        (([.both, .aToB] : List Direction)[x i 1]?))
      if n = 7 ∧ x 5 1 = 0 then some (segment .none 6)
      else if n = 8 ∧ x 5 1 = 1 then some (segment (.door (x 6 1)) 7)
      else if n = 8 ∧ x 5 1 = 2 then some (segment (.lane (x 6 1)) 7) else none) ∧
    spells 0x52 (if n = 4 + x 3 1 then
      some (.floorRoute (x 0 1) (x 1 1) (x 2 1) ((List.range (x 3 1)).map (fun j => x (4 + j) 1))) else none) ∧
    fixed 0x53 0 .floorClear ∧
    spells 0x54 (if n = 2 ∧ x 0 1 = 0 then some (.floorQuery (some (.node (x 1 1))))
      else if n = 2 ∧ x 0 1 = 1 then some (.floorQuery (some (.segment (x 1 1))))
      else if n = 2 ∧ x 0 1 = 2 then some (.floorQuery (some (.route (x 1 1))))
      else if n = 1 ∧ x 0 1 = 3 then some (.floorQuery (some .waits)) else none) ∧
    fixed 0x55 0 .fleetStart ∧ fixed 0x56 0 .fleetStop ∧
    (let f := named 0 [2, 2, 2, 2, 2]
     chosen 0x60 0 [2, 2, 2, 2, 2] (.fleetConfig ⟨f 0, f 1, f 2, f 3, f 4⟩)) ∧
    fixed 0x61 0 .fleetQuery ∧
    spells 0x62 ((last 2 4).map (fun d => .taskUnstack (x 0 1) (x 1 1) d)) ∧
    spells 0x63 ((last 1 4).map (fun d => .taskCheck (x 0 1) d)) ∧
    spells 0x64 (if x 2 1 = 0 then (last 3 4).map (fun d => .taskMove (x 0 1) (x 1 1) none d)
      else if x 2 1 = 1 ∧ x 3 1 ≤ 1 then (last 5 4).map (fun d => .taskMove (x 0 1) (x 1 1) (some (some (place 3))) d)
      else none) ∧
    fixed 0x65 2 (.taskCancel (x 0 2)) ∧
    spells 0x66 (if n = 3 ∧ x 0 1 = 0 then some (.taskQuery (some (.one (x 1 2))))
      else if n = 2 ∧ x 0 1 = 1 then some (.taskQuery (some (.all (x 1 1)))) else none) ∧
    fixed 0x67 3 (.vehicleEnrol (x 0 1) (x 1 2)) ∧ fixed 0x68 1 (.vehicleRemove (x 0 1)) ∧ fixed 0x69 1 (.vehicleHalt (x 0 1)) ∧
    fixed 0x6A 2 (.vehicleRecover (x 0 1) (x 1 1)) ∧ fixed 0x6B 1 (.vehicleHome (x 0 1)) ∧
    fixed 0x6C 2 (.vehicleQuery (x 0 1) (onOff (x 1 1)))

/-- The end of a frame (R182, R188): the oldest reply is next; with none the Notice Unit gives the lowest source of the transmit
set that has unmasked reasons, dropping those below it whose contents are empty, unannounced; with no such source the set is
emptied so and the transmitter is idle. -/
def Obligations.TransmitterPrefersReplies : Prop :=
  ∀ s : State,
    let unmasked := fun (i : Fin 44) => s.nu.entries[i].pending &&& s.nu.masks[kindOf i]
    let dropped := fun (i : Fin 44) => ({ s.nu.entries[i] with
      queued := false, announced := s.nu.entries[i].announced && !s.nu.entries[i].queued } : NoticeEntry)
    (∀ r rs, s.clp.replies = r :: rs →
      exec .transmitDone s = .next { s with clp := { s.clp with tx := some r, replies := rs } }) ∧
    (s.clp.replies = [] → ∀ i : Fin 44, s.nu.entries[i].queued = true → unmasked i ≠ 0 →
      (∀ j : Fin 44, j < i → s.nu.entries[j].queued = true → unmasked j = 0) →
      ∃ t : State, exec .transmitDone s = .next t ∧ t = { s with
        nu := { s.nu with entries := t.nu.entries }
        clp := { s.clp with tx := some (clFrame 0x7F 0 (byteOf i.val :: bytesLE 2 (unmasked i).toNat)) } } ∧
      t.nu.entries[i] = { s.nu.entries[i] with queued := false } ∧ (∀ j : Fin 44, j < i → t.nu.entries[j] = dropped j) ∧
      ∀ j : Fin 44, i < j → t.nu.entries[j] = s.nu.entries[j]) ∧
    (s.clp.replies = [] → (∀ i : Fin 44, s.nu.entries[i].queued = true → unmasked i = 0) →
      ∃ t : State, exec .transmitDone s = .next t ∧ t = { s with
        nu := { s.nu with entries := t.nu.entries }, clp := { s.clp with tx := none } } ∧
      ∀ i : Fin 44, t.nu.entries[i] = dropped i)

/-- IDENTIFY (R190): its fixed reply, with the line speed and the hall time; nothing else changes. -/
def Obligations.IdentifyTellsThePart : Prop :=
  (∀ tag, requestOf ⟨0x01, tag, []⟩ = .inr .identify) ∧
  (∀ tag b bs, requestOf ⟨0x01, tag, b :: bs⟩ = .inl .badFrame) ∧
  ∀ s : State, exec .identify s = .next { s with clp := { s.clp with lastReply := some ⟨.ok,
    bytesLE 2 2240 ++ bytesLE 1 1 ++ bytesLE 1 s.clp.rate.val ++ bytesLE 4 s.clk.hall ++
    bytesLE 2 512 ++ bytesLE 2 16 ++ bytesLE 2 8 ++ bytesLE 2 2 ++ bytesLE 2 16 ++ bytesLE 2 128 ++ bytesLE 2 192 ++
    bytesLE 2 256 ++ bytesLE 2 12 ++ bytesLE 2 32 ++ bytesLE 2 4 ++ bytesLE 2 24 ++ bytesLE 2 44 ++ bytesLE 2 2 ++
    bytesLE 2 1024⟩ } }

/-- TIME SET: hall time is set with an empty Roll Table and a stopped fleet, ticks run on; else BAD_STATE and no change. -/
def Obligations.TimeSetNeedsAnEmptyTableAndAStoppedFleet : Prop :=
  ∀ (time : Nat) (s : State), time ≤ 4294967295 →
    exec (.timeSet time) s = .next (if s.su.rolls = [] ∧ s.fd.fleet = .stopped then
      { s with
        clk := { s.clk with hall := time }, clp := { s.clp with lastReply := some ⟨.ok, bytesLE 4 time⟩ } }
      else { s with clp := { s.clp with lastReply := some ⟨.badState, []⟩ } })

/-! ## RESET(MOTION) -/

/-- RESET(MOTION) before its hand-offs: the queue and the wait list are empty, locks and runs stay, reservations go, every
delivery holds, present stands fall back with AUTO off but those in PASTING, the fleet's MOTION_RESET is pending, the freed slots
are offered first, and the projection, the counts, the clock and the line keep their state. Each vehicle acts by the table of
R147: the whole of its record and of its link record, and the lane that a vehicle left IDLE at an unused head gives back. Charge
due alone is not as that table has it, which keeps it: that it is set for a barred vehicle whose task the reset removes, and for
one left without task in IDLE or DOZE with a balance of 6 or more, is the model's reading of R136 beside R147 (DEDUCED, log 56).
Another scope is refused. DEDUCED (log 25): a halted vehicle that waits for the echo of DOCK becomes IDLE at once, and a halted vehicle's
lane stays OPEN with its other locks. DESIGN CHOICE (log 1): the free slots stand at the head of the hand-offs. DEDUCED (log 49):
a vehicle WAKING for VEHICLE HOME loses the homing, so that it becomes IDLE at its answer (O55). The byte of the number of stands
still pasting is DEDUCED (log 19). -/
def Obligations.MotionResetEndsTheWork : Prop :=
  (∀ (scope : Nat) (s : State), scope ≠ 1 →
    exec (.resetMotion scope) s = .next ({ s with clp := { s.clp with lastReply := some ⟨.badFrame, []⟩ } } : State).finish) ∧
  ∀ s : State, ∃ u : State, exec (.resetMotion 1) s = .next u.finish ∧
    u.clp = { s.clp with lastReply := some ⟨.ok, bytesLE 1
      ((List.finRange 24).filter (fun st => s.ssq[st].state == .pasting)).length⟩ } ∧
    u.fd.tasks = [] ∧ u.lu.waits = [] ∧ u.lu.segLocks = s.lu.segLocks ∧ u.lu.nodeLocks = s.lu.nodeLocks ∧
    u.lu.runs = s.lu.runs ∧
    u.su.rolls = s.su.rolls.map (fun r => if r.state = .reserved then { r with state := .ready, reservation := none }
      else if r.state = .carried then { r with reservation := none } else r) ∧
    (∀ b : Fin 8, u.su.bays[b] = match s.su.bays[b].state with
      | .reserved _ => { s.su.bays[b] with state := .free }
      | _ => s.su.bays[b]) ∧
    (∀ d : Fin 2, u.su.doors[d].waits = [] ∧ u.su.doors[d].passages = s.su.doors[d].passages ∧
      u.su.doors[d].openings = s.su.doors[d].openings) ∧
    (∀ st : Stand, s.ssq[st].present = true → s.ssq[st].state ≠ .pasting →
      u.ssq[st].auto = false ∧ u.ssq[st].loading = none ∧
      u.ssq[st].armA = s.ssq[st].armA ∧ u.ssq[st].armB = s.ssq[st].armB ∧ u.ssq[st].running = s.ssq[st].running ∧
      u.ssq[st].state = match s.ssq[st].state with
        | .accelerating | .matched => .armed
        | .loading => if s.ssq[st].running.isSome then .single else .empty
        | x => x) ∧
    (∀ st : Stand, s.ssq[st].state = .pasting → u.ssq[st].state = .pasting) ∧
    (∀ st : Stand, u.fp.stands[st].hold = true ∧ u.fp.stands[st].task = none ∧ u.fp.stands[st].roll = none ∧
      u.fp.stands[st].dig = []) ∧
    (let stands := fun (r : VehRec) => (r.state = some .waiting ∧ ¬(r.phase = .dockWait ∧ r.halted = false)) ∨
        (r.state = some .picking ∧ (r.halted = true ∨ (r.phase = .reading ∧ ∃ b, r.work = some (.bay b)))) ∨
        (r.state = some .placing ∧ (r.halted = true ∨ ∃ st, r.work = some (.stand st)))
      let leaves := fun (r : VehRec) => r.state = some .picking ∧ r.halted = false ∧ r.phase = .reading ∧
        ∀ b, r.work ≠ some (.bay b)
      let backs := fun (r : VehRec) => r.halted = false ∧ ((r.state = some .picking ∧ r.phase = .reading) ∨
        (r.state = some .placing ∧ r.phase = .lowering ∧ ∃ st, r.work = some (.stand st)))
      (∀ v : Vehicle,
        let r := s.fd.vehicles[v]
        let kept : VehRec := { r with
          task := none, homeNext := false
          chargeDue := r.chargeDue || (r.task.isSome && r.barred) ||
            decide ((r.state = some .idle ∨ r.state = some .doze) ∧ 6 ≤ r.balance) }
        (stands r → u.fd.vehicles[v] = { kept with
          chargeDue := kept.chargeDue || decide (6 ≤ r.balance)
          state := some .idle, entry := some s.clk.hall, delayFrom := s.clk.hall, parkWait := false, sleepTested := false
          cause := none, phase := .none, undocking := false }) ∧
        (leaves r → u.fd.vehicles[v] = { kept with
          workBegun := true, backDue := true, phase := .leaving (.failed .cancelled) }) ∧
        (¬stands r → ¬leaves r → u.fd.vehicles[v] = kept) ∧
        (backs r → u.fl.links[v] = { s.fl.links[v] with
          count := (s.fl.links[v].count + 1) % 16, order := some .backout, echoed := false, awaitMotion := false
          wakeExpiry := none }) ∧
        (¬backs r → u.fl.links[v] = s.fl.links[v])) ∧
      ∀ (l : Nat) (lane : LaneRec), s.su.lanes[l]? = some lane →
        let given := fun (v : Vehicle) => lane.motion = .opened v ∧ stands s.fd.vehicles[v] ∧
          s.fd.vehicles[v].workBegun = false ∧ s.fd.vehicles[v].halted = false ∧
          ∃ n x, s.fd.vehicles[v].node = some n ∧ s.lu.nodes[n] = some x ∧ x.kind = .laneHead l
        ((∃ v, given v) → u.su.lanes[l]? = some { lane with motion := .clearing (s.clk.tick + s.su.clearTime * 1000) }) ∧
        ((∀ v, ¬given v) → u.su.lanes[l]? = some lane)) ∧
    u.fl.cycle = s.fl.cycle ∧ u.fl.visit = s.fl.visit ∧ u.inbox.head? = some .fdSlot ∧
    u.nu.entries[srcFleet].pending &&& 4 = 4 ∧
    u.pju = s.pju ∧ u.cu = s.cu ∧ u.clk = s.clk ∧ u.pins = s.pins ∧ u.pending = s.pending

/-! ## Notices -/

/-- A raise (R177) with its announcement test (R181): the reason becomes pending and unseen; with the enable on and an
unmasked reason pending, a source not announced is announced and joins the transmit set. Other entries stay. -/
def Obligations.RaiseMakesAReasonPendingAndUnseen : Prop :=
  ∀ (s : State) (i : Fin 44) (r : Reason), ∃ e : NoticeEntry,
    s.raise i r = { s with nu := { s.nu with entries := s.nu.entries.set i e } } ∧
    e.pending = s.nu.entries[i].pending ||| r.bit ∧ e.seen = s.nu.entries[i].seen &&& ~~~r.bit ∧
    if s.nu.enable = true ∧ s.nu.entries[i].announced = false ∧ e.pending &&& s.nu.masks[kindOf i] ≠ 0 then
      e.announced = true ∧ e.queued = true
    else e.announced = s.nu.entries[i].announced ∧ e.queued = s.nu.entries[i].queued

/-- The six fetches (R179), while a frame is being sent: the reasons seen before go, the rest become seen, announced is cleared
and the announcement test made; the two sets are the end of the reply; nothing else changes but, of the records, those the query
itself shows anew: the door examined (R38; that the record keeps what the examination found is DEDUCED, log 22), and the gap count
that a VEHICLE QUERY clears (R159). The body of each reply: STORE QUERY (R30), FLEET QUERY and VEHICLE QUERY (R146, R159), DOOR
QUERY (R38), PRESS QUERY (R58, R102, R175) and STAND QUERY with its parts (R58, R83, R102). A door, press, stand or vehicle out of
range, and an unknown CLEAR GAPS, are answered BAD_FRAME and change no entry. The place of a lane's last read tag (R177) at the
end of the lane's fields is DEDUCED (log 33), as are the field order that no rule gives whole, the widths that R187 does not give,
the four bytes of a NO_READ and the milliseconds to expiry of a CLEARING lane (log 19), the presence bytes of fields that a rule
joins (log 19: of these, one for a run's cause, and one each for starved reason and earliest ready time, are DESIGN CHOICE), the
codes of DIG_FAILED and RESERVATION_LOST (log 17), and R, Rmin and A of an absent stand as its projection record holds them (log 36). -/
def Obligations.FetchesRemoveWhatWasSeen : Prop :=
  (∀ s : State, s.clp.tx.isSome →
    let b1 := bytesLE 1
    let b2 := bytesLE 2
    let b4 := bytesLE 4
    let list := fun (xs : List (List Byte)) => b1 xs.length ++ xs.flatten
    let tag := optField (fun t : Tag => match t with
      | .noRead => b4 0
      | .roll n => b4 n)
    let veh := fun (v : Vehicle) => b1 v.val
    let fetched := fun (c : Instr) (i : Fin 44) (body : List Byte) => ∃ (t : State) (e : NoticeEntry),
      exec c s = .next t ∧ t.nu = { s.nu with entries := s.nu.entries.set i e } ∧
      e.pending = s.nu.entries[i].pending &&& ~~~s.nu.entries[i].seen ∧ e.seen = e.pending ∧
      (e.announced = true ↔ s.nu.enable = true ∧ e.pending &&& s.nu.masks[kindOf i] ≠ 0) ∧
      e.queued = (s.nu.entries[i].queued || e.announced) ∧
      t.clp = { s.clp with lastReply := some ⟨.ok, body ++ b2 s.nu.entries[i].pending.toNat ++
        b2 s.nu.entries[i].seen.toNat⟩ } ∧
      t = { s with nu := t.nu, clp := t.clp, su := t.su, fl := t.fl }
    fetched .storeQuery 0
      (b2 s.su.rolls.length ++
        (([.conditioning, .ready, .reserved, .carried, .standby, .running, .butt, .spent] : List RollState).map (fun x =>
          b2 (s.su.rolls.filter (fun r => r.state == x)).length)).flatten ++
        b1 s.su.lanes.length ++ b2 s.su.clearTime ++
        list (s.su.lanes.map (fun r => b1 r.depth ++ (match r.motion with
            | .idle => b1 0
            | .opened v => b1 1 ++ veh v
            | .clearing e => b1 2 ++ b4 (e - s.clk.tick)) ++
          flag r.blocked ++ flag r.suspect ++ b1 r.list.length ++ tag r.lastTag)) ++
        (s.su.bays.toList.map (fun b => (match b.state with
            | .free => b1 0
            | .reserved t => b1 1 ++ b2 t
            | .occupied n => b1 2 ++ b4 n) ++ flag b.suspect ++ tag b.lastTag)).flatten) ∧
    fetched .fleetQuery 1
      (b1 s.fd.fleet.code ++ b2 s.fd.holdTimeout ++ b2 s.fd.parkDelay ++ b2 s.fd.sleepDelay ++ b2 s.fd.chargeInterval ++
        b2 s.fd.topUpPeriod ++ b1 s.fd.tasks.length ++
        (s.fd.vehicles.toList.map (fun r => flag r.enrolled ++ optField (fun x : VehState => b1 x.code) r.state ++
          optField b2 r.task)).flatten ++ b1 s.fl.cycle) ∧
    (∀ d : Fin 2,
      let r := s.su.doors[d]
      let old := r.openings.filter (fun x => decide (x + r.window ≤ s.clk.hall))
      let live := r.openings.filter (fun x => decide (s.clk.hall < x + r.window))
      let dropped := if old = [] then r.dropped else some (old.foldl max 0)
      fetched (.doorQuery d.val) (srcDoor d)
        (b1 r.limit ++ b2 r.window ++ list (live.map b4) ++ optField b4 dropped ++ list (r.waits.map veh) ++
          list (r.passages.map veh) ++ flag (decide (r.passages ≠ [])) ++
          flag (decide (live.length < r.limit) && dropped.all (fun x => decide (x + r.window ≤ s.clk.hall))))) ∧
    (∀ p : Press,
      let r := s.pju.press[p]
      let o := s.fp.presses[p]
      let c := s.cu[p]
      let cause := optField (fun x : Stand × Nat => b1 x.1.val ++ b4 x.2)
      let scope := fun (x : Scope) => b4 x.gross ++ b4 x.good ++ b4 x.waste ++ b4 x.brk ++ b4 x.startup ++ b4 x.splice ++
        b4 x.plate ++ b4 x.other ++ b4 x.web
      let edge := fun (e : CopyEdge) => b1 (match e with
        | .none => 0 | .rising => 1 | .falling => 2 | .both => 3)
      fetched (.pressQuery p.val) (srcPress p)
        (b2 r.speed ++ b2 r.scale ++ optField b2 r.pendScale ++ b4 r.position ++ flag o.slow ++ flag o.stop ++ flag o.release ++
          (([0, 1, 2, 3, 4, 5] : List (Fin 6)).map (fun k => optField (fun x : Int => b4 (x % 4294967296).toNat)
            (s.fp.stands[(⟨6 * p.val + k.val, by omega⟩ : Stand)]).slack)).flatten ++
          b2 c.cutOff ++ b1 c.pulses ++ optField b1 c.pendPulses ++ edge c.edge ++ optField edge c.pendEdge ++
          b1 (if c.polarity = .wasteHigh then 0 else 1) ++ b2 c.window ++ b1 c.prescaler ++ scope c.totals ++ scope c.edition ++
          b4 c.remainder ++ flag c.breakMark ++ flag c.startupMark ++ flag c.plateMark ++
          list (c.splices.map (fun e => b1 e.stand.val ++ b4 e.roll ++ b4 e.stamp)) ++
          optField (fun x : WasteRun => b2 x.number ++ b4 x.start ++ b4 x.copies ++ b1 (match x.reason with
            | .brk => 0 | .startup => 1 | .splice => 2 | .plate => 3 | .other => 4) ++ cause x.cause)
            (c.ring.getLast?.filter (·.isOpen)) ++
          b4 c.target ++ b4 c.allowance ++ flag c.targetReached ++ flag c.allowancePassed ++ flag c.saturated)) ∧
    (∀ st : Stand,
      let r := s.ssq[st]
      let p := s.pju.stand[st]
      let d := s.fp.stands[st]
      let on := fun (arm : Arm) => if arm = .a then r.armA else r.armB
      let running := r.running.bind on
      let other := on (if r.running = some .a then .b else .a)
      let holding := fun (x : RollState) => other.filter (fun n => (s.roll? n).map (·.state) == some x)
      let known := fun (n : Nat) => (s.roll? n).map (·.remaining)
      let reserves := fun (x : Reserves) => b2 x.reserve ++ b2 x.minReserve ++ b2 x.lead
      let task := match d.task, d.state with
        | some id, some x => some (id, x)
        | _, _ => none
      fetched (.standQuery st.val) (srcStand st)
        (flag r.present ++ b1 r.state.code ++ flag r.auto ++
          optField (fun x : Nat × WidthClass => b1 x.1 ++ b1 (WidthClass.code x.2)) r.assignment ++
          b2 (r.watch.rise.toNat + 2 * r.watch.fall.toNat + 4 * r.watch.rev.toNat) ++
          (b2 r.cfg.reserve ++ b2 r.cfg.minReserve ++ b2 r.cfg.accelLead ++ b2 r.cfg.accelLimit ++ b2 r.cfg.prepTime ++
            b1 r.cfg.matchWindow ++ b4 r.cfg.pasteCycle ++ b2 r.cfg.ejectLimit) ++
          reserves p.force ++ optField reserves p.pend ++ optField b4 r.armA ++ optField b4 r.armB ++
          optField (fun x => b1 (Arm.code x)) r.running ++ flag r.manual ++
          optField (fun x : SpliceFault => b1 (match x with
            | .accelTimeout => 0 | .speedMismatch => 1 | .noConfirm => 2)) r.lastFault ++
          optField veh r.loading ++
          optField (fun n => b4 n ++ optField b2 (if p.ring = [] then none else some (p.ring.sum / p.ring.length)) ++
            b2 ((known n).getD 0 / 1000) ++ optField b2 p.time ++ flag (((s.roll? n).map (·.measured)).getD false) ++
            flag p.indexFault) running ++
          optField (fun n => b4 n ++ optField b4 r.prepStart ++ b4 (s.clk.hall - r.prepStart.getD s.clk.hall) ++
            optField b2 p.lastW) (holding .standby) ++
          optField (fun x : TimerPurpose × Nat => b1 (match x.1 with
            | .accel => 0 | .paste => 1 | .eject => 2) ++ b4 (x.2 - s.clk.tick)) r.timer ++
          optField (fun n => b4 n ++ b2 (((s.roll? n).bind (·.butt)).getD 0) ++ flag r.ejectFault) (holding .butt) ++
          optField (fun x : FaultPart => b4 x.entry ++ b4 x.copies ++ flag x.lateConfirm)
            (if r.state = .fault then r.fault else none) ++
          (if r.present = true ∧
              (d.task ≠ none ∨ d.starved ≠ none ∨ d.lastFail ≠ none ∨ d.hold = true ∨ d.slack ≠ none) then
            b1 1 ++ (optField (fun x : Nat × TaskState => b2 x.1 ++ b1 x.2.code) task ++ optField b4 d.roll ++
              optField b4 ((d.task.bind s.task?).bind (·.deadline)) ++ list (d.dig.map b2) ++
              optField (fun x : Starved => b1 (match x with
                | .conditioning _ => 0 | .buried => 1 | .nothing => 2 | .queueFull => 3)) d.starved ++
              optField b4 (match d.starved with
                | some (.conditioning e) => some e
                | _ => none) ++ flag d.hold ++
              optField (fun x : LastFailure => b1 (match x.cause with
                | .task y => y.code
                | .digFailed => 13
                | .reservationLost => 14) ++ b4 x.time ++ b2 x.task ++ optField b4 x.roll) d.lastFail ++
              optField b4 d.estimate ++ optField (fun x : Int => b4 (x % 4294967296).toNat) d.slack)
            else b1 0))) ∧
    ∀ (v : Vehicle) (clear : Bool),
      let r := s.fd.vehicles[v]
      let k := s.fl.links[v]
      let node := optField (fun n : Node => b1 n.val)
      let next := (s.fl.cycle + 1) % 8
      let visited : Bool := r.enrolled && ((k.order.isSome && !k.echoed) || decide (r.power = .awake) ||
        (decide (r.power = .doze) && decide (next = v.val % 8)))
      fetched (.vehicleQuery v.val (some clear)) (srcVeh v)
        (flag r.enrolled ++ b2 r.speed ++ optField (fun x : VehState => b1 x.code) r.state ++
          optField (fun x : FaultCause => b1 x.code) r.cause ++ flag r.halted ++ node r.node ++ optField b4 r.load ++
          optField b2 r.task ++ b1 (r.balance % 256).toNat ++ b4 r.interval ++ b4 r.topUp ++ flag r.chargeDue ++ flag r.barred ++
          b1 r.power.code ++ flag r.reachable ++ optField b4 r.entry ++ b1 r.passages ++
          optField (fun o : TaskOutcome => b2 o.id ++ b1 o.kind.code ++ (match o.result with
            | .done => b1 0
            | .failed x => b1 1 ++ b1 x.code) ++ tag o.tag ++ optField b1 o.moved) r.outcome ++
          optField b1 r.errorCode ++ flag r.halted ++
          list (((List.finRange 192).filter (fun g => s.lu.segLocks[g] == some v)).map (fun g => b1 g.val)) ++
          list (((List.finRange 128).filter (fun n => s.lu.nodeLocks[n] == some v)).map (fun n => b1 n.val)) ++
          optField b1 ((List.range s.su.lanes.length).find? (fun l => (s.su.lanes[l]?.map (·.motion)) == some (.opened v))) ++
          list (((List.finRange 2).filter (fun d => s.su.doors[d].passages.contains v)).map (fun d => b1 d.val)) ++
          optField (fun x : LastStatus => b1 x.motion.code ++ node x.node ++ flag x.loaded) k.status ++
          b1 k.count ++ optField (fun o : Order => b1 o.kind) k.order ++ flag k.echoed ++ b1 k.misses ++
          optField b1 k.lastEvent ++ b1 k.gaps ++ optField (fun e => b4 (e - s.clk.tick)) k.wakeExpiry ++ flag visited)) ∧
  ∀ s : State,
    let refused := fun (c : Instr) => exec c s = .next (s.reply ⟨.badFrame, []⟩).close
    (∀ n, (1 < n → refused (.doorQuery n)) ∧ (3 < n → refused (.pressQuery n)) ∧ (23 < n → refused (.standQuery n)) ∧
      ∀ c, 11 < n ∨ c = none → refused (.vehicleQuery n c)) ∧
    (∃ t, exec .storeQuery s = .next t ∧ t.su = s.su ∧ t.fl = s.fl) ∧
    (∃ t, exec .fleetQuery s = .next t ∧ t.su = s.su ∧ t.fl = s.fl) ∧
    (∀ p : Press, ∃ t, exec (.pressQuery p.val) s = .next t ∧ t.su = s.su ∧ t.fl = s.fl) ∧
    (∀ st : Stand, ∃ t, exec (.standQuery st.val) s = .next t ∧ t.su = s.su ∧ t.fl = s.fl) ∧
    (∀ v : Vehicle, ∃ t, exec (.vehicleQuery v.val (some false)) s = .next t ∧ t.su = s.su ∧ t.fl = s.fl) ∧
    (∀ v : Vehicle, ∃ t, exec (.vehicleQuery v.val (some true)) s = .next t ∧ t.su = s.su ∧
      t.fl = { s.fl with links := s.fl.links.set v { s.fl.links[v] with gaps := 0 } }) ∧
    ∀ d : Fin 2, ∃ (t : State) (old : List Nat), exec (.doorQuery d.val) s = .next t ∧ t.fl = s.fl ∧
      old = s.su.doors[d].openings.filter (fun x => decide (x + s.su.doors[d].window ≤ s.clk.hall)) ∧
      t.su = { s.su with doors := s.su.doors.set d { s.su.doors[d] with
        openings := s.su.doors[d].openings.filter (fun x => decide (s.clk.hall < x + s.su.doors[d].window))
        dropped := if old = [] then s.su.doors[d].dropped else some (old.foldl max 0) } }

/-- ATTENTION (R178): one item for each source with pending reasons, which all become seen; nothing else changes. -/
def Obligations.AttentionListsAndMarksSeen : Prop :=
  ∀ s : State, ∃ t, exec .attention s = .next t ∧
    t = { s with nu := { s.nu with entries := t.nu.entries }, clp := { s.clp with lastReply := t.clp.lastReply } } ∧
    (∀ i : Fin 44, t.nu.entries[i].pending = s.nu.entries[i].pending ∧
      t.nu.entries[i].seen = (if s.nu.entries[i].pending = 0 then s.nu.entries[i].seen else s.nu.entries[i].pending) ∧
      t.nu.entries[i].announced = s.nu.entries[i].announced ∧ t.nu.entries[i].queued = s.nu.entries[i].queued) ∧
    ∃ items : List (Fin 44), items = (List.finRange 44).filter (fun i => s.nu.entries[i].pending != 0) ∧
      t.clp.lastReply = some ⟨.ok, byteOf s.nu.enable.toNat :: byteOf items.length ::
        (items.map (fun i => byteOf i.val :: (bytesLE 2 s.nu.entries[i].pending.toNat ++
          bytesLE 2 s.nu.masks[kindOf i].toNat))).flatten⟩

/-- NOTICE MASK (R180): a refused one changes nothing; a taken one writes the named masks and the enable, keeps every pending and
seen set, and answers with the six masks and the enable. Turning the enable off takes every waiting source out of the transmit
set, unannounced. With the enable on and a mask written, or newly on, every source not announced that has unmasked reasons is
announced and joins the set. The other entries stay, before the transmitter is served. -/
def Obligations.NoticeMaskWritesMasksOnly : Prop :=
  ∀ (ms : List (Nat × Nat)) (enable : Option (Option Bool)) (s : State),
    (¬(ms.map (·.1)).Nodup ∨ enable = some none ∨
        (∃ x ∈ ms, 6 ≤ x.1 ∨ 65536 ≤ x.2 ∨ ∃ k : Fin 6, k.val = x.1 ∧ ¬within (BitVec.ofNat 16 x.2) (kindSet k)) →
      exec (.noticeMask ms enable) s =
        .next ({ s with clp := { s.clp with lastReply := some ⟨.badFrame, []⟩ } } : State).close) ∧
    ((ms.map (·.1)).Nodup → enable ≠ some none →
      (∀ x ∈ ms, ∃ k : Fin 6, k.val = x.1 ∧ x.2 < 65536 ∧ within (BitVec.ofNat 16 x.2) (kindSet k)) →
      ∃ u : State, exec (.noticeMask ms enable) s = .next u.close ∧ u = { s with nu := u.nu, clp := u.clp } ∧
        u.clp = { s.clp with lastReply := some ⟨.ok, ([0, 1, 2, 3, 4, 5].map (fun k : Fin 6 =>
          bytesLE 2 u.nu.masks[k].toNat)).flatten ++ flag u.nu.enable⟩ } ∧
        u.nu.enable = (enable.join.getD s.nu.enable) ∧
        (∀ k : Fin 6, ∀ m, (k.val, m) ∈ ms → u.nu.masks[k] = BitVec.ofNat 16 m) ∧
        (∀ k : Fin 6, k.val ∉ ms.map (·.1) → u.nu.masks[k] = s.nu.masks[k]) ∧
        ∀ i : Fin 44,
          let e := s.nu.entries[i]
          let off : Prop := s.nu.enable = true ∧ u.nu.enable = false
          let tests : Prop := u.nu.enable = true ∧ (ms ≠ [] ∨ s.nu.enable = false)
          let joins : Prop := e.announced = false ∧ e.pending &&& u.nu.masks[kindOf i] ≠ 0
          (off → u.nu.entries[i] = { e with queued := false, announced := e.announced && !e.queued }) ∧
          (tests ∧ joins → u.nu.entries[i] = { e with announced := true, queued := true }) ∧
          (¬off → ¬(tests ∧ joins) → u.nu.entries[i] = e))

/-! ## Rolls and grades (chapter 1) -/

/-- ROLL IN, its tests in order and its effect (R7, R8): the record enters with its start values, at the head of the lane or in
the bay; a full table raises TABLE_FULL_HIT, at the 512th record and at a 513th; the Feed Planner is told. -/
def Obligations.RollInTestsInOrderAndEnters : Prop :=
  ∀ (roll grade caliper core label : Nat) (width : Option WidthClass) (place : Option PlaceArg) (s : State),
    let cmd : Instr := .rollIn roll grade width caliper core label place
    let refused := fun (e : Result) => exec cmd s = .next (s.reply ⟨e, []⟩).finish
    let bad : Prop := roll = 0 ∨ 15 < grade ∨ width = none ∨ match place with
      | some (.lane l) => s.su.lanes.length ≤ l
      | some (.bay b) => 7 < b
      | none => True
    let hit : State := { s with nu := s.nu.raise 0 4#16 }
    let entry := fun (w : WidthClass) (minutes : Nat) (loc : Loc) =>
      ({ num := roll, grade := grade, width := w, caliper := max 40 (min 150 caliper), core := max 70 (min 200 core)
         label := max 100 (min 40000 label), arrival := s.clk.hall, ready := min 4294967295 (s.clk.hall + 60 * minutes)
         state := if minutes = 0 then .ready else .conditioning, mark := .normal, loc := loc, reservation := none
         remaining := max 100 (min 40000 label) * 1000, measured := false, stripped := none, butt := none, good := 0
         waste := 0, spliceWaste := 0, spliceIn := none, spliceOut := none } : RollRec)
    let answer := fun (r : RollRec) => (some ⟨if r.caliper = caliper ∧ r.core = core ∧ r.label = label then .ok else .okClamped,
      bytesLE 4 r.ready ++ bytesLE 1 (if r.state = .ready then 1 else 0)⟩ : Option Reply)
    (bad → refused .badFrame) ∧
    (¬bad → ∀ r, s.roll? roll = some r → refused .conflict) ∧
    (¬bad → s.roll? roll = none →
      (512 ≤ s.su.rolls.length → exec cmd s = .next (hit.reply ⟨.tableFull, []⟩).finish) ∧
      (s.su.rolls.length < 512 →
        (∀ l lane, place = some (.lane l) → s.su.lanes[l]? = some lane →
          (∀ v, lane.motion = .opened v → refused .busy) ∧
          ((∀ v, lane.motion ≠ .opened v) → lane.depth ≤ lane.list.length → refused .tableFull) ∧
          ((∀ v, lane.motion ≠ .opened v) → lane.list.length < lane.depth → s.PlacesOk →
            ∀ w, width = some w → ∀ g : Fin 16, g.val = grade → ∃ u : State, exec cmd s = .next u.finish ∧
              u = { s with su := u.su, nu := u.nu, inbox := s.inbox ++ [.fpRetry], clp := { s.clp with
                lastReply := answer (entry w s.su.grades[g] (.lane l 0)) } } ∧
              u.nu = (if s.su.rolls.length = 511 then hit.nu else s.nu) ∧
              u.su = { s.su with rolls := u.su.rolls, lanes := s.su.lanes.set l { lane with list := roll :: lane.list } } ∧
              u.roll? roll = some (entry w s.su.grades[g] (.lane l 0)) ∧
              ∀ n, n ≠ roll → u.roll? n = (s.roll? n).map (fun r => match r.loc with
                | .lane k d => if k = l then { r with loc := .lane k (d + 1) } else r
                | _ => r))) ∧
        (∀ b : Fin 8, place = some (.bay b.val) →
          (s.su.bays[b].state ≠ .free → refused .conflict) ∧
          (s.su.bays[b].state = .free → ∀ w, width = some w → ∀ g : Fin 16, g.val = grade →
            ∃ u : State, exec cmd s = .next u.finish ∧
              u = { s with su := u.su, nu := u.nu, inbox := s.inbox ++ [.fpRetry], clp := { s.clp with
                lastReply := answer (entry w s.su.grades[g] (.bay b)) } } ∧
              u.nu = (if s.su.rolls.length = 511 then hit.nu else s.nu) ∧
              u.su = { s.su with
                rolls := u.su.rolls, bays := s.su.bays.set b { s.su.bays[b] with state := .occupied roll } } ∧
              u.roll? roll = some (entry w s.su.grades[g] (.bay b)) ∧ ∀ n, n ≠ roll → u.roll? n = s.roll? n))))

/-- ROLL EDIT (R11): only a CONDITIONING or READY roll, named fields only, label fields clamped; ready time, state and place
stay; a READY roll whose grade or width changes is a retry cause. The order of the refusals, NOT_FOUND, BAD_STATE, BAD_FRAME, is
the model's (DEDUCED, log 20: R11 gives none). -/
def Obligations.RollEditWritesTheNamedFields : Prop :=
  ∀ (n : Nat) (grade : Option Nat) (width : Option (Option WidthClass)) (caliper core label : Option Nat) (s : State),
    let cmd : Instr := .rollEdit n grade width caliper core label
    let refused := fun (e : Result) => exec cmd s = .next (s.reply ⟨e, []⟩).finish
    (s.roll? n = none → refused .notFound) ∧
    ∀ r, s.roll? n = some r →
      (r.state ≠ .conditioning ∧ r.state ≠ .ready → refused .badState) ∧
      (r.state = .conditioning ∨ r.state = .ready →
        ((∃ g, grade = some g ∧ 15 < g) ∨ width = some none → refused .badFrame) ∧
        (∀ (g : Nat) (w : WidthClass) (ca co la : Nat), (grade.getD r.grade = g) → (∀ x, grade = some x → x ≤ 15) →
          width ≠ some none → width.join.getD r.width = w →
          ca = (caliper.map (fun x => max 40 (min 150 x))).getD r.caliper →
          co = (core.map (fun x => max 70 (min 200 x))).getD r.core →
          la = (label.map (fun x => max 100 (min 40000 x))).getD r.label →
          let e : RollRec := { r with
            grade := g, width := w, caliper := ca, core := co, label := la
            remaining := if label = none then r.remaining else la * 1000 }
          exec cmd s = .next ({ s with
            su := { s.su with rolls := s.su.rolls.map (fun x => if x.num = n then e else x) }
            inbox := s.inbox ++ (if r.state = .ready ∧ (g ≠ r.grade ∨ w ≠ r.width) then [.fpRetry] else [])
            clp := { s.clp with lastReply := some ⟨if caliper.all (fun x => decide (40 ≤ x ∧ x ≤ 150)) &&
              core.all (fun x => decide (70 ≤ x ∧ x ≤ 200)) && label.all (fun x => decide (100 ≤ x ∧ x ≤ 40000)) then .ok else .okClamped, []⟩ } } : State).finish))

/-- ROLL HOLD (R12): the mark is set; a RESERVED roll becomes READY without its reservation, which is reported, then a retry cause
is given; the order of these two hand-offs is the model's (DESIGN CHOICE, log 1). ROLL FREE (R13): the mark becomes NORMAL in
every state, nothing else of any record changes (no reservation comes back), and freeing a HELD READY roll is a retry cause. -/
def Obligations.RollHoldAndFreeSetTheMark : Prop :=
  (∀ (n : Nat) (s : State),
    (s.roll? n = none → exec (.rollHold n) s = .next (s.reply ⟨.notFound, []⟩).finish) ∧
    ∀ r, s.roll? n = some r →
      (r.mark = .held → exec (.rollHold n) s = .next (s.reply ⟨.ok, []⟩).finish) ∧
      (r.mark = .normal → (r.state ≠ .reserved ∨ r.reservation = none) →
        exec (.rollHold n) s = .next ({ s with
          su := { s.su with rolls := s.su.rolls.map (fun x => if x.num = n then { x with mark := .held } else x) }
          clp := { s.clp with lastReply := some ⟨.ok, []⟩ } } : State).finish) ∧
      ∀ st, r.mark = .normal → r.state = .reserved → r.reservation = some st →
        exec (.rollHold n) s = .next ({ s with
          su := { s.su with rolls := s.su.rolls.map (fun x =>
            if x.num = n then { x with mark := .held, state := .ready, reservation := none } else x) }
          inbox := s.inbox ++ [.fpLost st n, .fpRetry]
          clp := { s.clp with lastReply := some ⟨.ok, []⟩ } } : State).finish) ∧
  ∀ (n : Nat) (s : State), s.su.TablesOk →
    (s.roll? n = none → exec (.rollFree n) s = .next (s.reply ⟨.notFound, []⟩).finish) ∧
    ∀ r, s.roll? n = some r →
      exec (.rollFree n) s = .next ({ s with
        su := { s.su with rolls := s.su.rolls.map (fun x => if x.num = n then { x with mark := .normal } else x) }
        inbox := s.inbox ++ (if r.mark = .held ∧ r.state = .ready then [.fpRetry] else [])
        clp := { s.clp with lastReply := some ⟨.ok, []⟩ } } : State).finish ∧
      (r.mark = .normal →
        s.su.rolls.map (fun x => if x.num = n then { x with mark := .normal } else x) = s.su.rolls)

/-- ROLL CLOSE (R14), whole: the record of a SPENT roll goes, with the answer ROLL QUERY would give; its number is free again;
a roll in another state stays. Lanes, bays, vehicles and stands stay. -/
def Obligations.RollCloseRemovesASpentRecord : Prop :=
  ∀ (n : Nat) (s : State),
    (s.roll? n = none → exec (.rollClose n) s = .next (s.reply ⟨.notFound, []⟩)) ∧
    ∀ r, s.roll? n = some r →
      (r.state ≠ .spent → exec (.rollClose n) s = .next (s.reply ⟨.badState, []⟩)) ∧
      (r.state = .spent → ∃ (t : State) (x : Reply), exec (.rollClose n) s = .next t ∧
        exec (.rollQuery n) s = .next (s.reply x) ∧
        t = { s with su := { s.su with rolls := t.su.rolls }, clp := { s.clp with lastReply := some x } } ∧
        t.roll? n = none ∧ (∀ m, m ≠ n → t.roll? m = s.roll? m) ∧ t.su.rolls.length < s.su.rolls.length)

/-- The five queries that are no fetch, each with its reply; they change nothing else. ROLL QUERY (R15), LANE QUERY (R28) with
every roll of the list and its state, RUNS QUERY (R175), FLOOR QUERY in its four forms (R120) and TASK QUERY (R146), whose ALL
form holds the longest prefix of whole records that fits into a frame (R187). A NO_READ as last read tag is four zero bytes, as in
the status frame, the field order of a few records and the widths that R187 does not give are the model's too, and so is BAD_FRAME
for a starting position above 31 of TASK QUERY (DEDUCED, log 19). One presence byte for a run's cause stand and cause roll together
is the model's (DESIGN CHOICE, log 19). The node list of a route whose segments are not loaded or do not chain is cut before the
first such segment (DESIGN CHOICE, log 54). -/
def Obligations.PlainQueriesChangeNothing : Prop :=
  ∀ s : State,
    let answers := fun (c : Instr) (x : Reply) => exec c s = .next (s.reply x)
    let veh := optField (fun v : Vehicle => bytesLE 1 v.val)
    let list := fun (xs : List (List Byte)) => bytesLE 1 xs.length ++ xs.flatten
    (∀ n, s.roll? n = none → answers (.rollQuery n) ⟨.notFound, []⟩) ∧
    (∀ n r, s.roll? n = some r → answers (.rollQuery n) ⟨.ok,
      bytesLE 4 r.num ++ bytesLE 1 r.grade ++ bytesLE 1 (WidthClass.code r.width) ++ bytesLE 2 r.caliper ++
      bytesLE 2 r.core ++ bytesLE 2 r.label ++ bytesLE 4 r.arrival ++ bytesLE 4 r.ready ++ bytesLE 1 r.state.code ++
      bytesLE 1 r.mark.code ++ r.loc.field ++ optField (fun st => bytesLE 1 st.val) r.reservation ++
      bytesLE 2 (r.remaining / 1000) ++ flag r.measured ++ optField (bytesLE 2) r.stripped ++
      optField (bytesLE 2) r.butt ++ bytesLE 4 r.good ++ bytesLE 4 r.waste ++ bytesLE 4 r.spliceWaste ++
      optField (bytesLE 4) r.spliceIn ++ optField (bytesLE 4) r.spliceOut⟩) ∧
    (∀ l, s.su.lanes.length ≤ l → answers (.laneQuery l) ⟨.badFrame, []⟩) ∧
    (∀ l lane, s.su.lanes[l]? = some lane → s.PlacesOk → ∃ states : List RollState,
      states.length = lane.list.length ∧
      (∀ (i n : Nat) (x : RollState), lane.list[i]? = some n → states[i]? = some x →
        ∃ r, s.roll? n = some r ∧ r.state = x) ∧
      answers (.laneQuery l) ⟨.ok,
        bytesLE 1 lane.depth ++ (match lane.motion with
          | .idle => bytesLE 1 0
          | .opened v => bytesLE 1 1 ++ bytesLE 1 v.val
          | .clearing e => bytesLE 1 2 ++ bytesLE 4 (e - s.clk.tick)) ++
        flag lane.blocked ++ flag lane.suspect ++ optField (fun t : Tag => match t with
          | .noRead => bytesLE 4 0
          | .roll n => bytesLE 4 n) lane.lastTag ++
        list ((lane.list.zip states).map (fun x => bytesLE 4 x.1 ++ bytesLE 1 x.2.code))⟩) ∧
    (∀ n, 3 < n → answers (.runsQuery n) ⟨.badFrame, []⟩) ∧
    (∀ p : Press, answers (.runsQuery p.val) ⟨.ok, list (s.cu[p].ring.map (fun x =>
      bytesLE 2 x.number ++ bytesLE 4 x.start ++ bytesLE 4 x.copies ++ bytesLE 1 (match x.reason with
        | .brk => 0 | .startup => 1 | .splice => 2 | .plate => 3 | .other => 4) ++
      optField (fun y : Stand × Nat => bytesLE 1 y.1.val ++ bytesLE 4 y.2) x.cause ++
      bytesLE 1 (if x.isOpen then 0 else 1))) ++ bytesLE 2 s.cu[p].lastRun⟩) ∧
    answers (.floorQuery none) ⟨.badFrame, []⟩ ∧
    (∀ n, (127 < n → answers (.floorQuery (some (.node n))) ⟨.badFrame, []⟩) ∧
      (191 < n → answers (.floorQuery (some (.segment n))) ⟨.badFrame, []⟩) ∧
      (255 < n → answers (.floorQuery (some (.route n))) ⟨.badFrame, []⟩)) ∧
    (∀ n : Node, answers (.floorQuery (some (.node n.val))) ⟨.ok, optField (fun r : NodeRec => (match r.kind with
        | .plain => bytesLE 1 0
        | .hold => bytesLE 1 1
        | .laneHead l => bytesLE 1 2 ++ bytesLE 1 l
        | .bay b => bytesLE 1 3 ++ bytesLE 1 b
        | .stand st => bytesLE 1 4 ++ bytesLE 1 st
        | .charger => bytesLE 1 5
        | .park => bytesLE 1 6
        | .home => bytesLE 1 7) ++ optField (fun m : Node => bytesLE 1 m.val) r.escape) s.lu.nodes[n] ++ veh s.lu.nodeLocks[n]⟩) ∧
    (∀ g : Seg, answers (.floorQuery (some (.segment g.val))) ⟨.ok, optField (fun r : SegRec =>
      bytesLE 1 r.a.val ++ bytesLE 1 r.b.val ++ bytesLE 2 r.length ++ (match r.attr with
        | .none => bytesLE 1 0
        | .door d => bytesLE 1 1 ++ bytesLE 1 d
        | .lane l => bytesLE 1 2 ++ bytesLE 1 l) ++ bytesLE 1 (if r.direction = .both then 0 else 1)) s.lu.segs[g] ++
      veh s.lu.segLocks[g]⟩) ∧
    (∀ k : Route, answers (.floorQuery (some (.route k.val))) ⟨.ok, optField (fun r : RouteRec =>
      bytesLE 1 r.origin.val ++ bytesLE 1 r.dest.val ++ list (r.segs.map (fun g => bytesLE 1 g.val)) ++
      optField (bytesLE 4) r.total ++ list ((s.lu.nodeSeq r).map (fun n => bytesLE 1 n.val))) s.lu.routes[k]⟩) ∧
    (∃ es : List WaitEntry, es.Perm s.lu.waits ∧ es.Pairwise (fun x y => deadlineLt y.deadline x.deadline = false) ∧
      answers (.floorQuery (some .waits)) ⟨.ok, list (es.map (fun e =>
        bytesLE 1 e.veh.val ++ bytesLE 1 e.run.start.val ++ bytesLE 1 e.run.stop.val ++ optField (bytesLE 4) e.deadline ++
        bytesLE 4 (s.clk.tick - e.since) ++ flag e.flag ++ optField (fun h : HeldLock => match h with
          | .segment g => bytesLE 1 0 ++ bytesLE 1 g.val
          | .node n => bytesLE 1 1 ++ bytesLE 1 n.val
          | .lane l => bytesLE 1 2 ++ bytesLE 1 l
          | .door d => bytesLE 1 3 ++ bytesLE 1 d.val) e.held))⟩) ∧
    let place := fun (k : Place → List Byte) (p : Place) => k p ++ match p with
      | .lane l => bytesLE 1 l
      | .bay b => bytesLE 1 b.val
      | .stand st => bytesLE 1 st.val
      | .node n => bytesLE 1 n.val
    let task := fun (t : TaskRec) =>
      bytesLE 2 t.id ++ bytesLE 1 t.kind.code ++ bytesLE 1 t.state.code ++
      optField (fun st : Stand => bytesLE 1 st.val) t.stand ++ optField (bytesLE 4) t.roll ++
      optField (place (fun p => match p with
        | .lane _ => bytesLE 1 0
        | .bay _ => bytesLE 1 1
        | .stand _ => bytesLE 1 2
        | .node _ => bytesLE 1 3)) t.source ++
      optField (place (fun p => match p with
        | .stand _ => bytesLE 1 0
        | .lane _ => bytesLE 1 1
        | .bay _ => bytesLE 1 2
        | .node _ => bytesLE 1 3)) t.dest ++
      optField (bytesLE 4) t.deadline ++ bytesLE 4 t.created ++ veh t.vehicle ++ optField (bytesLE 2) t.parent ++
      optField (bytesLE 1) (if t.kind = .unstack then some t.count else none) ++
      optField (bytesLE 1) (if t.kind = .unstack then some t.moved else none) ++
      optField (fun b : Fin 8 => bytesLE 1 b.val) t.bay ++ bytesLE 1 t.reads ++
      optField (fun r : TaskRoute => bytesLE 1 r.number.val ++ list (r.nodes.map (fun n => bytesLE 1 n.val)) ++
        bytesLE 4 r.ahead) t.route ++ flag t.cancel ++ optField (fun r : FailReason => bytesLE 1 r.code) t.fail
    answers (.taskQuery none) ⟨.badFrame, []⟩ ∧
    (∀ id, s.task? id = none → answers (.taskQuery (some (.one id))) ⟨.notFound, []⟩) ∧
    (∀ id t, s.task? id = some t → answers (.taskQuery (some (.one id))) ⟨.ok, task t⟩) ∧
    (∀ n, 31 < n → answers (.taskQuery (some (.all n))) ⟨.badFrame, []⟩) ∧
    ∀ n, n ≤ 31 → ∃ k, answers (.taskQuery (some (.all n))) ⟨.ok, bytesLE 1 s.fd.tasks.length ++
        (((s.fd.tasks.drop n).take k).map task).flatten⟩ ∧
      (((s.fd.tasks.drop n).take k).map task).flatten.length ≤ 1020 ∧
      ∀ t, (s.fd.tasks.drop n)[k]? = some t →
        1020 < (((s.fd.tasks.drop n).take k).map task).flatten.length + (task t).length

/-- GRADE SET (R9) and DOOR CONFIG (R34). Grade Table: 480 minutes at hardware reset, kept by RESET(MOTION); GRADE SET refuses a
grade above 15, clamps the time, and moves no record's ready time. DOOR CONFIG: clamped values in force at the next
examination; the lists stay; the Lock Unit is told at once when they make the door permit the vehicle at the front. The one byte
of the opening limit in the reply is the model's (DEDUCED, log 19: R187's table does not list it). -/
def Obligations.GradeAndDoorConfigWriteTheirValues : Prop :=
  ((∀ (rate1 rate0 : Bool) (s : State), ∃ t, exec (.hardwareReset rate1 rate0) s = .next t ∧
    ∀ g : Fin 16, t.su.grades[g] = 480) ∧
  (∀ s : State, ∃ u : State, exec (.resetMotion 1) s = .next u.finish ∧ u.su.grades = s.su.grades) ∧
  ∀ (grade minutes : Nat) (s : State),
    (15 < grade → exec (.gradeSet grade minutes) s = .next (s.reply ⟨.badFrame, []⟩)) ∧
    ∀ g : Fin 16, g.val = grade → exec (.gradeSet grade minutes) s = .next { s with
      su := { s.su with grades := s.su.grades.set g (min 4320 minutes) }
      clp := { s.clp with lastReply := (some
        ⟨if minutes ≤ 4320 then .ok else .okClamped, bytesLE 2 (min 4320 minutes)⟩) } }) ∧
  ∀ (door : Nat) (limit window : Option Nat) (s : State),
    (1 < door → exec (.doorConfig door limit window) s = .next (s.reply ⟨.badFrame, []⟩).finish) ∧
    ∀ (d : Fin 2) (n w : Nat), d.val = door →
      n = (limit.map (fun x => max 1 (min 12 x))).getD s.su.doors[d].limit →
      w = (window.map (fun x => max 30 (min 1800 x))).getD s.su.doors[d].window →
      let live := s.su.doors[d].openings.filter (fun x => decide (s.clk.hall < x + w))
      let permits : Bool := decide (s.su.doors[d].waits ≠ [] ∧ live.length < n) &&
        (decide (live ≠ s.su.doors[d].openings) || s.su.doors[d].dropped.all (fun x => decide (x + w ≤ s.clk.hall)))
      exec (.doorConfig door limit window) s = .next ({ s with
        su := { s.su with doors := s.su.doors.set d { s.su.doors[d] with limit := n, window := w } }
        inbox := s.inbox ++ (if permits then [.luExamine] else [])
        clp := { s.clp with lastReply := some ⟨if limit.all (fun x => decide (1 ≤ x ∧ x ≤ 12)) &&
          window.all (fun x => decide (30 ≤ x ∧ x ≤ 1800)) then .ok else .okClamped, bytesLE 1 n ++ bytesLE 2 w⟩ } } : State).finish

/-! ## Lanes, bays and doors (chapter 2) -/

/-- LANE SET, its tests in order and its effect (R27); rolls that leave a SUSPECT lane or bay, and a bay freed, are retry causes
(R93). -/
def Obligations.LaneSetTestsInOrderAndInstalls : Prop :=
  ∀ (l : Nat) (rolls : List Nat) (s : State),
    let refused := fun (e : Result) => exec (.laneSet l rolls) s = .next (s.reply ⟨e, []⟩).finish
    let inState := fun (n : Nat) (p : RollState → Prop) => ∃ r, s.roll? n = some r ∧ p r.state
    let inOpen := fun (n : Nat) => ∃ r k d lane v, s.roll? n = some r ∧ r.loc = .lane k d ∧ k ≠ l ∧
      s.su.lanes[k]? = some lane ∧ lane.motion = .opened v
    (s.su.lanes.length ≤ l ∨ 24 < rolls.length ∨ 0 ∈ rolls ∨ ¬rolls.Nodup → refused .badFrame) ∧
    ∀ lane, s.su.lanes[l]? = some lane → rolls.length ≤ 24 → 0 ∉ rolls → rolls.Nodup →
      (lane.blocked = false → refused .badState) ∧
      (lane.blocked = true → lane.motion ≠ .idle → refused .busy) ∧
      (lane.blocked = true → lane.motion = .idle → lane.depth < rolls.length → refused .tableFull) ∧
      (lane.blocked = true → lane.motion = .idle → rolls.length ≤ lane.depth →
        ((∃ n ∈ rolls, s.roll? n = none) → refused .notFound) ∧
        ((∀ n ∈ rolls, s.roll? n ≠ none) →
          ((∃ n ∈ rolls, inState n (· = .spent)) → refused .badState) ∧
          ((∀ n ∈ rolls, inState n (· ≠ .spent)) →
            ((∃ n ∈ rolls, ¬inState n (fun x => x = .conditioning ∨ x = .ready ∨ x = .reserved)) → refused .conflict) ∧
            ((∀ n ∈ rolls, inState n (fun x => x = .conditioning ∨ x = .ready ∨ x = .reserved)) →
              ((∃ n ∈ rolls, inOpen n) → refused .busy) ∧
              ((∀ n ∈ rolls, ¬inOpen n) → s.PlacesOk → ∃ u : State,
                exec (.laneSet l rolls) s = .next u.finish ∧
                u = { s with su := u.su, inbox := u.inbox, clp := { s.clp with lastReply := some ⟨.ok, []⟩ } } ∧
                u.su = { s.su with rolls := u.su.rolls, lanes := u.su.lanes, bays := u.su.bays } ∧
                u.su.lanes[l]? = some { lane with list := rolls, suspect := false, lastTag := none } ∧
                (∀ k, k ≠ l → u.su.lanes[k]? = s.su.lanes[k]?.map (fun x =>
                  { x with list := x.list.filter (fun n => decide (n ∉ rolls)) })) ∧
                (∀ b : Fin 8, u.su.bays[b] = match s.su.bays[b].state with
                  | .occupied n => if n ∈ rolls then { s.su.bays[b] with state := .free } else s.su.bays[b]
                  | _ => s.su.bays[b]) ∧
                (∀ n r, s.roll? n = some r → ∃ r', u.roll? n = some r' ∧
                  (n ∈ lane.list → n ∉ rolls → r' = { r with state := .spent, loc := .none, reservation := none }) ∧
                  (∀ d, rolls[d]? = some n → r' = { r with loc := .lane l d }) ∧
                  (n ∉ lane.list → n ∉ rolls → r' = { r with loc := r'.loc })) ∧
                (lane.suspect = true ∨ (∃ n ∈ rolls, ∃ r, s.roll? n = some r ∧ ((∃ b, r.loc = .bay b) ∨
                  ∃ k d x, r.loc = .lane k d ∧ s.su.lanes[k]? = some x ∧ x.suspect = true)) → Msg.fpRetry ∈ u.inbox) ∧
                ∀ n r st, n ∈ lane.list → n ∉ rolls → s.roll? n = some r → r.state = .reserved → r.reservation = some st →
                  Msg.fpLost st n ∈ u.inbox)))))

/-- LANE BLOCK and LANE UNBLOCK (R25). -/
def Obligations.LaneBlockAndUnblock : Prop :=
  ∀ (l : Nat) (s : State), s.PlacesOk →
    (s.su.lanes.length ≤ l → exec (.laneBlock l) s = .next (s.reply ⟨.badFrame, []⟩).finish ∧
      exec (.laneUnblock l) s = .next (s.reply ⟨.badFrame, []⟩).finish) ∧
    ∀ lane, s.su.lanes[l]? = some lane →
      (lane.blocked = true → exec (.laneBlock l) s = .next (s.reply ⟨.ok, []⟩).finish) ∧
      (lane.blocked = false → exec (.laneUnblock l) s = .next (s.reply ⟨.ok, []⟩).finish) ∧
      (lane.blocked = false → ∃ u : State, exec (.laneBlock l) s = .next u.finish ∧
        u = { s with su := u.su, inbox := u.inbox, clp := { s.clp with lastReply := some ⟨.ok, []⟩ } } ∧
        u.su = { s.su with rolls := u.su.rolls, lanes := s.su.lanes.set l { lane with blocked := true } } ∧
        u.su.rolls = s.su.rolls.map (fun r =>
          if r.num ∈ lane.list ∧ r.state = .reserved then { r with state := .ready, reservation := none } else r) ∧
        ∀ n r st, n ∈ lane.list → s.roll? n = some r → r.state = .reserved → r.reservation = some st →
          Msg.fpLost st n ∈ u.inbox) ∧
      (lane.blocked = true → exec (.laneUnblock l) s = .next ({ s with
        su := { s.su with lanes := s.su.lanes.set l { lane with blocked := false } }
        inbox := s.inbox ++ (if lane.suspect = false ∧ ∃ n ∈ lane.list, ∃ r ∈ s.su.rolls, r.num = n ∧ r.state = .ready ∧
          r.mark = .normal then [.fpRetry] else [])
        clp := { s.clp with lastReply := some ⟨.ok, []⟩ } } : State).finish)

/-- LANE RELEASE (R26), whole, and the expiry of a clearing lane (R23): a CLEARING lane becomes IDLE and the Lock Unit is told.
LANE_CLEAR_EXPIRY is the moment itself and acts at any tick (DEDUCED, log 8). -/
def Obligations.LaneReleaseEndsClearing : Prop :=
  ∀ (l : Nat) (s : State),
    (s.su.lanes.length ≤ l → exec (.laneRelease l) s = .next (s.reply ⟨.badFrame, []⟩).finish) ∧
    ∀ lane, s.su.lanes[l]? = some lane →
      let freed : State := { s with
        su := { s.su with lanes := s.su.lanes.set l { lane with motion := .idle } }, inbox := s.inbox ++ [.luExamine] }
      (∀ e, lane.motion = .clearing e → exec (.laneRelease l) s = .next (freed.reply ⟨.ok, []⟩).finish ∧
        ∀ k : Fin 16, k.val = l → exec (.laneClearExpiry k) s = .next freed.finish) ∧
      (lane.motion = .idle → exec (.laneRelease l) s = .next (s.reply ⟨.ok, []⟩).finish) ∧
      (∀ v, lane.motion = .opened v → exec (.laneRelease l) s = .next (s.reply ⟨.badState, []⟩).finish)

/-- STORE CONFIG, its tests in order and its effect (R29). The one byte in the reply that is both the lane count and the entry
count of the depth list is the model's (DEDUCED, log 19). -/
def Obligations.StoreConfigTestsInOrderAndKeepsLanes : Prop :=
  ∀ (depths : List Nat) (clear : Nat) (s : State),
    let cmd : Instr := .storeConfig depths clear
    let ds := depths.map (fun d => max 1 (min 24 d))
    let ct := max 1 (min 30 clear)
    let refused := fun (e : Result) => exec cmd s = .next (s.reply ⟨e, []⟩)
    let conflict : Prop := ∃ (l : Nat) (lane : LaneRec), s.su.lanes[l]? = some lane ∧ match ds[l]? with
      | some d => d < lane.list.length
      | none => lane.list ≠ []
    (16 < depths.length → refused .badFrame) ∧
    (depths.length ≤ 16 → (∃ r ∈ s.su.lanes, r.motion ≠ .idle) → refused .locked) ∧
    (depths.length ≤ 16 → (∀ r ∈ s.su.lanes, r.motion = .idle) → conflict → refused .conflict) ∧
    (depths.length ≤ 16 → (∀ r ∈ s.su.lanes, r.motion = .idle) → ¬conflict → ∃ t : State, exec cmd s = .next t ∧
      t = { s with su := { s.su with lanes := t.su.lanes, clearTime := ct }, clp := { s.clp with lastReply := (some
        ⟨if ds = depths ∧ ct = clear then .ok else .okClamped,
          bytesLE 1 depths.length ++ (ds.map (bytesLE 1)).flatten ++ bytesLE 2 ct⟩) } } ∧
      t.su.lanes.length = depths.length ∧
      ∀ l d : Nat, ds[l]? = some d → t.su.lanes[l]? = some ((s.su.lanes[l]?.map (fun lane : LaneRec => { lane with depth := d })).getD
        ⟨d, .idle, false, false, none, []⟩))

/-- BAY SET, its tests in order and its effect (R33). Retry causes (R93): a SUSPECT bay trusted again, a roll that leaves a SUSPECT
lane, another bay that a roll leaves, and this bay when EMPTY or another roll takes its roll out; that ROLL frees the bay in
between is the model's choice (DESIGN CHOICE, log 43). -/
def Obligations.BaySetTestsInOrderAndInventories : Prop :=
  ∀ (s : State) (bay : Nat) (content : Option BayContent),
    let refused := fun (e : Result) => exec (.baySet bay content) s = .next (s.reply ⟨e, []⟩).finish
    (7 < bay ∨ content = none ∨ content = some (.roll 0) → refused .badFrame) ∧
    ∀ (b : Fin 8) (c : BayContent), b.val = bay → content = some c → c ≠ .roll 0 →
      let held : Prop := ∃ n : Node, (∃ r, s.lu.nodes[n] = some r ∧ r.kind = .bay bay) ∧ s.lu.nodeLocks[n] ≠ none
      let trusted := fun (r : BayRec) => ({ r with suspect := false, lastTag := none } : BayRec)
      (held → refused .busy) ∧
      (¬held → ∀ k, s.su.bays[b].state = .reserved k → refused .conflict) ∧
      (¬held → (∀ k, s.su.bays[b].state ≠ .reserved k) →
        (∀ x, c = .roll x →
          (s.roll? x = none → refused .notFound) ∧
          (∀ r, s.roll? x = some r →
            (r.state = .spent → refused .badState) ∧
            (r.state = .carried ∨ r.state = .standby ∨ r.state = .running ∨ r.state = .butt → refused .conflict) ∧
            (r.state = .conditioning ∨ r.state = .ready ∨ r.state = .reserved →
              ∀ k d lane v, r.loc = .lane k d → s.su.lanes[k]? = some lane → lane.motion = .opened v → refused .busy))) ∧
        (c = .keep → exec (.baySet bay content) s = .next ({ s with
          su := { s.su with bays := s.su.bays.set b (trusted s.su.bays[b]) }
          inbox := s.inbox ++ (if s.su.bays[b].suspect then [.fpRetry] else [])
          clp := { s.clp with lastReply := some ⟨.ok, []⟩ } } : State).finish) ∧
        (s.PlacesOk → (c = .empty ∨ ∃ x r, c = .roll x ∧ s.roll? x = some r ∧
            (r.state = .conditioning ∨ r.state = .ready ∨ r.state = .reserved) ∧
            ∀ k d lane v, r.loc = .lane k d → s.su.lanes[k]? = some lane → lane.motion ≠ .opened v) →
          ∃ u : State, exec (.baySet bay content) s = .next u.finish ∧
            u = { s with su := u.su, inbox := u.inbox, clp := { s.clp with lastReply := some ⟨.ok, []⟩ } } ∧
            u.su = { s.su with rolls := u.su.rolls, lanes := u.su.lanes, bays := u.su.bays } ∧
            (c = .empty → u.su.bays[b] = ⟨.free, false, none⟩ ∧ u.su.lanes = s.su.lanes ∧
              ∀ b' : Fin 8, b' ≠ b → u.su.bays[b'] = s.su.bays[b']) ∧
            (∀ x, c = .roll x → u.su.bays[b] = ⟨.occupied x, false, none⟩ ∧
              (∀ b' : Fin 8, b' ≠ b → u.su.bays[b'] =
                if s.su.bays[b'].state = .occupied x then { s.su.bays[b'] with state := .free } else s.su.bays[b']) ∧
              (∀ k : Nat, u.su.lanes[k]? = s.su.lanes[k]?.map (fun y : LaneRec => { y with list := y.list.filter (· != x) })) ∧
              (∀ r, s.roll? x = some r → u.roll? x = some { r with loc := .bay b })) ∧
            (∀ y r, s.su.bays[b].state = .occupied y → c ≠ .roll y → s.roll? y = some r →
              u.roll? y = some { r with state := .spent, loc := .none, reservation := none } ∧
              ∀ st, r.state = .reserved → r.reservation = some st → Msg.fpLost st y ∈ u.inbox) ∧
            (∀ n r, c ≠ .roll n → s.su.bays[b].state ≠ .occupied n → s.roll? n = some r →
              ∃ r', u.roll? n = some r' ∧ r' = { r with loc := r'.loc }) ∧
            (s.su.bays[b].suspect = true ∨ (∃ y, s.su.bays[b].state = .occupied y ∧ c ≠ .roll y) ∨
              (∃ x r, c = .roll x ∧ s.roll? x = some r ∧ ((∃ b', b' ≠ b ∧ r.loc = .bay b') ∨
                ∃ k d y, r.loc = .lane k d ∧ s.su.lanes[k]? = some y ∧ y.suspect = true)) → Msg.fpRetry ∈ u.inbox)))

/-! ## Projection (chapter 3) -/

/-- WEB_ADVANCE (R40, R47, R50, R171): counts become whole millimetres with a carry; an advance of 1 mm or more goes to every
present stand of the press, whose running roll is dead-reckoned, and to the web copies. That an advance of 0 mm reaches neither is
the model's reading (DEDUCED, log 32). Other presses keep their state. -/
def Obligations.WebAdvanceConvertsAndFeedsThePress : Prop :=
  ∀ (s : State) (p : Press) (counts : Nat), s.PlacesOk →
    let mm := (counts * 1000 + s.pju.press[p].carry) / s.pju.press[p].scale
    let pp : PressProj := { s.pju.press[p] with
      carry := (counts * 1000 + s.pju.press[p].carry) % s.pju.press[p].scale
      position := (s.pju.press[p].position + mm) % 4294967296, bucket := s.pju.press[p].bucket + mm }
    (counts = 0 → exec (.webAdvance p counts) s = .next s.finish) ∧
    (counts ≠ 0 → mm = 0 → exec (.webAdvance p counts) s =
      .next ({ s with pju := { s.pju with press := s.pju.press.set p pp } } : State).finish) ∧
    (counts ≠ 0 → mm ≠ 0 → ∃ u : State, exec (.webAdvance p counts) s = .next u.finish ∧
      u = { s with pju := { press := s.pju.press.set p pp, stand := u.pju.stand }, ssq := u.ssq, nu := u.nu, cu := u.cu
                   su := { s.su with rolls := u.su.rolls }, inbox := u.inbox } ∧
      u.cu = s.cu.set p { s.cu[p] with
        remainder := (s.cu[p].remainder + mm) % s.cu[p].cutOff
        totals := { s.cu[p].totals with
          web := min 4294967295 (s.cu[p].totals.web + (s.cu[p].remainder + mm) / s.cu[p].cutOff) }
        edition := { s.cu[p].edition with
          web := min 4294967295 (s.cu[p].edition.web + (s.cu[p].remainder + mm) / s.cu[p].cutOff) } } ∧
      (∀ st : Stand, (st.val / 6 = p.val ∧ s.ssq[st].present = true) ∨
        (u.ssq[st] = s.ssq[st] ∧ u.pju.stand[st] = s.pju.stand[st])) ∧
      (∀ st : Stand, st.val / 6 = p.val → s.ssq[st].present = true →
        let q := s.pju.stand[st]
        let far : Bool := s.pins[p].run && s.ssq[st].running.isSome && s.ssq[st].state != .fault && !q.indexFault
        u.pju.stand[st].runPeriod = (if s.ssq[st].running ≠ none then q.runPeriod + mm else q.runPeriod) ∧
        u.pju.stand[st].sbPeriod = (if s.ssq[st].state = .accelerating then q.sbPeriod + mm else q.sbPeriod) ∧
        u.pju.stand[st].faultDist = (if far then min 5000 (q.faultDist + mm) else q.faultDist) ∧
        u.pju.stand[st].indexFault = (if far ∧ 5000 ≤ q.faultDist + mm then true else q.indexFault) ∧
        (far ∧ 5000 ≤ q.faultDist + mm →
          u.pju.stand[st].runPhase = .discard ∧ u.nu.entries[srcStand st].pending.getLsbD 9 = true) ∧
        ∀ n r, s.ssq[st].runningRoll? = some n → s.roll? n = some r →
          u.roll? n = some { r with remaining := r.remaining - mm }) ∧
      ∀ n, (∀ st : Stand, st.val / 6 = p.val → s.ssq[st].present = true → s.ssq[st].runningRoll? ≠ some n) →
        u.roll? n = s.roll? n)

/-- What a dead-reckoned length sets off (R70, R74), at the stand an advance reaches: run-out at or below Rmin; a MATCHED stand
pastes at or below R, or when a manual splice is ordered; PASTING, RUNOUT and EMPTY are not tested. -/
def Obligations.WebAdvanceTestsTheRemainingLength : Prop :=
  ∀ (s : State) (st : Stand) (counts n : Nat) (r : RollRec), s.PlacesOk → s.ssq[st].present = true →
    s.ssq[st].runningRoll? = some n → s.roll? n = some r →
    1 ≤ (counts * 1000 + s.pju.press[pressOf st].carry) / s.pju.press[pressOf st].scale → counts ≠ 0 →
    let len := r.remaining - (counts * 1000 + s.pju.press[pressOf st].carry) / s.pju.press[pressOf st].scale
    let low := len ≤ s.pju.stand[st].force.minReserve * 1000
    let x := s.ssq[st]
    let out : StandRec := { x with
      state := .runout, manual := false, fault := none
      timer := match x.timer with
        | some (.eject, e) => some (.eject, e)
        | _ => none }
    ∃ u : State, exec (.webAdvance (pressOf st) counts) s = .next u.finish ∧
      (x.state = .matched → ¬low → (x.manual = true ∨ len ≤ s.pju.stand[st].force.reserve * 1000) →
        u.ssq[st] = { x with state := .pasting, timer := some (.paste, s.clk.tick + x.cfg.pasteCycle) }) ∧
      (x.state = .matched → x.manual = false → s.pju.stand[st].force.reserve * 1000 < len → ¬low → u.ssq[st] = x) ∧
      (x.state ∈ [.single, .butt, .loading, .preparing, .armed, .accelerating, .matched, .fault] → low →
        u.ssq[st] = out ∧ u.nu.entries[srcStand st].pending.getLsbD 8 = true) ∧
      (x.state ≠ .matched → ¬low → u.ssq[st] = x) ∧
      (x.state ∈ [.empty, .pasting, .runout] → u.ssq[st] = x)

/-- WEB_COPY (R171), INDEX_FAULT (R47) and MEASURE_RESET (R46), at whose written length run-out and the paste test are made (R70,
R74). That each is a command of its own, the moment its rule names, and does nothing where the condition stated here is not met,
is the model's (DEDUCED, log 8). -/
def Obligations.WebCopyIndexFaultAndMeasureReset : Prop :=
  ∀ s : State,
    (∀ p : Press, exec (.webCopy p) s = .next (if s.cu[p].cutOff ≤ s.cu[p].remainder then { s with
      cu := s.cu.set p { s.cu[p] with
        remainder := s.cu[p].remainder - s.cu[p].cutOff
        totals := { s.cu[p].totals with web := min 4294967295 (s.cu[p].totals.web + 1) }
        edition := { s.cu[p].edition with web := min 4294967295 (s.cu[p].edition.web + 1) } } } else s)) ∧
    ∀ st : Stand,
      let far : Prop := s.ssq[st].present = true ∧ s.pins[pressOf st].run = true ∧ s.ssq[st].running ≠ none ∧
        s.ssq[st].state ≠ .fault ∧ s.pju.stand[st].indexFault = false
      (¬far → exec (.indexFault st) s = .next s) ∧
      (far → exec (.indexFault st) s = .next ({ s with
        nu := s.nu.raise (srcStand st) (Reason.bit .indexFault)
        pju := { s.pju with stand := s.pju.stand.set st { s.pju.stand[st] with
          faultDist := 5000, indexFault := true, runPhase := .discard } } } : State).close) ∧
      ∀ m : Nat,
        let may : Prop := s.ssq[st].present = true ∧ s.ssq[st].running ≠ none ∧ s.ssq[st].state ≠ .fault ∧
          1 ≤ m ∧ m ≤ 65535
        (¬may → exec (.measureReset st m) s = .next s) ∧
        (may → ∃ u : State, exec (.measureReset st m) s = .next u.finish ∧
          u = { s with nu := u.nu, ssq := u.ssq, su := { s.su with rolls := u.su.rolls }, inbox := u.inbox
                       pju := { s.pju with stand := s.pju.stand.set st { s.pju.stand[st] with ring := [m], rejects := 0 } } } ∧
          u.nu.entries[srcStand st].pending.getLsbD 10 = true ∧ (∀ k, k ≠ st → u.ssq[k] = s.ssq[k]) ∧
          (s.ssq[st].runningRoll? = none → u.ssq = s.ssq ∧ u.su = s.su) ∧
          ∀ n r, s.ssq[st].runningRoll? = some n → s.roll? n = some r → ∃ len,
            len = min (r.label * 1000) ((m * m - (r.core * 355 / 113) * (r.core * 355 / 113)) * 113000 / (1420 * r.caliper)) ∧
            u.roll? n = some { r with
              remaining := len, measured := true
              stripped := some (r.stripped.getD ((r.remaining - len) / 1000)) } ∧
            (∀ k, k ≠ n → u.roll? k = s.roll? k) ∧
            let x := s.ssq[st]
            let low : Prop := len ≤ s.pju.stand[st].force.minReserve * 1000
            let tested : Prop := x.state ∈ [.single, .butt, .loading, .preparing, .armed, .accelerating, .matched]
            let pastes : Prop := x.state = .matched ∧ (x.manual = true ∨ len ≤ s.pju.stand[st].force.reserve * 1000)
            (tested → low → u.ssq[st] = { x with
              state := .runout, manual := false, fault := none
              timer := match x.timer with
                | some (.eject, e) => some (.eject, e)
                | _ => none } ∧ u.nu.entries[srcStand st].pending.getLsbD 8 = true) ∧
            (¬low → pastes → u.ssq[st] = { x with
              state := .pasting, timer := some (.paste, s.clk.tick + x.cfg.pasteCycle) }) ∧
            (¬(tested ∧ low) → ¬(¬low ∧ pastes) → u.ssq[st] = x))

/-- BUCKET_BOUNDARY (R41, R42, R52, R53): on every press the bucket closes, the speed is formed from ten buckets and a pending
scale is taken; every stand with a running roll gets its time to splice and deadline. -/
def Obligations.BucketBoundaryFormsSpeedAndTimes : Prop :=
  ∀ s : State, ∃ u : State, exec .bucketBoundary s = .next u.finish ∧
    u = { s with pju := u.pju, ssq := u.ssq, inbox := u.inbox } ∧
    (∀ p : Press,
      let b := s.pju.press[p].buckets.tail ++ [s.pju.press[p].bucket]
      u.pju.press[p] = { s.pju.press[p] with
        buckets := b, bucket := 0, speed := min 20000 b.sum, pendScale := none
        scale := s.pju.press[p].pendScale.getD s.pju.press[p].scale
        carry := if s.pju.press[p].pendScale = none then s.pju.press[p].carry else 0 }) ∧
    ∀ st : Stand,
      (s.ssq[st].running = none → u.pju.stand[st] = s.pju.stand[st] ∧ u.ssq[st] = s.ssq[st]) ∧
      ∀ n r, s.ssq[st].runningRoll? = some n → s.roll? n = some r →
        let speed := u.pju.press[pressOf st].speed
        let t := if speed = 0 then 65535 else min 65535 ((r.remaining - s.pju.stand[st].force.reserve * 1000) / speed)
        let d := min 4294967295 (s.clk.hall + (t - (s.pju.stand[st].force.lead + s.ssq[st].cfg.prepTime)))
        u.pju.stand[st].time = some t ∧ u.pju.stand[st].deadline = some d ∧ Msg.fpTime st t d ∈ u.inbox ∧
        u.ssq[st] = if s.ssq[st].state = .armed ∧ s.ssq[st].auto = true ∧ s.pins[pressOf st].run = true ∧
            t ≤ s.pju.stand[st].force.lead then { s.ssq[st] with
          state := .accelerating, timer := some (.accel, s.clk.tick + s.ssq[st].cfg.accelLimit * 1000) } else s.ssq[st]

/-- A running index pulse (R44, R45, R46, R49, R51, R68, R70, R74): the period is measured when counting and in range; an accepted
measurement or a ring reset writes the running roll's length, at which run-out and the paste test are made by the reserves then in
force; the reserves that wait are taken into force, at which an ARMED stand makes the acceleration test; EVERY_REV raises
WATCH_REV. In FAULT nothing is measured, and an index fault and the fault distance stay as they were (DEDUCED, log 35). Pulses
without a role change nothing. A period of 0 mm is not measured (PRESUMED, log 12: R45 does not name it). -/
def Obligations.RunningIndexPulseMeasures : Prop :=
  ∀ (s : State) (st : Stand) (arm : Arm),
    (s.ssq[st].present = false ∨ (s.ssq[st].running ≠ some arm ∧
        (s.ssq[st].running = none ∨ s.ssq[st].state ≠ .accelerating)) →
      exec (.indexPulse st arm) s = .next s.finish) ∧
    (s.ssq[st].present = true → s.ssq[st].running = some arm →
      let x := s.ssq[st]
      let q := s.pju.stand[st]
      let mean := q.ring.sum / q.ring.length
      let measured : Bool := decide (s.ssq[st].state ≠ .fault ∧ q.runPhase = .counting ∧ 1 ≤ q.runPeriod ∧ q.runPeriod ≤ 65535)
      let fits : Bool := decide (q.ring = [] ∨ (max q.runPeriod mean - min q.runPeriod mean) * 1000 ≤ 20 * mean)
      let ring := if ¬measured then q.ring else if fits then
          (if q.ring.length < 4 then q.ring ++ [q.runPeriod] else q.ring.tail ++ [q.runPeriod])
        else if q.rejects < 2 then q.ring else [q.runPeriod]
      ∃ u : State, exec (.indexPulse st arm) s = .next u.finish ∧
        u = { s with nu := u.nu, ssq := s.ssq.set st u.ssq[st], su := { s.su with rolls := u.su.rolls }, inbox := u.inbox
                     pju := { s.pju with stand := s.pju.stand.set st u.pju.stand[st] } } ∧
        (∀ m, x.runningRoll? ≠ some m → u.roll? m = s.roll? m) ∧
        (let written : Prop := measured ∧ (fits ∨ 2 ≤ q.rejects) ∧ x.runningRoll? ≠ none
         let len := ((x.runningRoll?.bind u.roll?).map (fun r : RollRec => r.remaining)).getD 0
         let low : Prop := len ≤ q.force.minReserve * 1000
         let tested : Prop := x.state ∈ [.single, .butt, .loading, .preparing, .armed, .accelerating, .matched]
         let pastes : Prop := x.state = .matched ∧ (x.manual = true ∨ len ≤ q.force.reserve * 1000)
         let ready : Prop := x.state = .armed ∧ x.auto = true ∧ s.pins[pressOf st].run = true ∧
           ∃ f t, q.pend = some f ∧ q.time = some t ∧ t ≤ f.lead
         (written → tested → low → u.ssq[st] = { x with
           state := .runout, manual := false, fault := none
           timer := match x.timer with
             | some (.eject, e) => some (.eject, e)
             | _ => none } ∧ u.nu.entries[srcStand st].pending.getLsbD 8 = true ∧
           (x.watch.fall = true → x.state ∈ [.armed, .accelerating, .matched] →
             u.nu.entries[srcStand st].pending.getLsbD 2 = true)) ∧
         (written → ¬low → pastes → u.ssq[st] = { x with
           state := .pasting, timer := some (.paste, s.clk.tick + x.cfg.pasteCycle) }) ∧
         (¬(written ∧ tested ∧ low) → ¬(written ∧ pastes) → ready → u.ssq[st] = { x with
           state := .accelerating, timer := some (.accel, s.clk.tick + x.cfg.accelLimit * 1000) }) ∧
         (¬(written ∧ tested ∧ low) → ¬(written ∧ pastes) → ¬ready → u.ssq[st] = x)) ∧
        u.pju.stand[st].ring = ring ∧
        u.pju.stand[st].rejects = (if ¬measured then q.rejects else if fits then 0 else
          if q.rejects < 2 then q.rejects + 1 else 0) ∧
        u.pju.stand[st].force = q.pend.getD q.force ∧ u.pju.stand[st].pend = none ∧
        (s.ssq[st].state ≠ .fault → u.pju.stand[st].runPhase = .counting ∧ u.pju.stand[st].runPeriod = 0 ∧
          u.pju.stand[st].faultDist = 0 ∧ u.pju.stand[st].indexFault = false) ∧
        (s.ssq[st].state = .fault → u.pju.stand[st].runPhase = q.runPhase ∧ u.pju.stand[st].runPeriod = q.runPeriod ∧
          u.pju.stand[st].faultDist = q.faultDist ∧ u.pju.stand[st].indexFault = q.indexFault) ∧
        (measured ∧ ¬fits ∧ 2 ≤ q.rejects → u.nu.entries[srcStand st].pending.getLsbD 10 = true) ∧
        (s.ssq[st].watch.rev = true → u.nu.entries[srcStand st].pending.getLsbD 3 = true) ∧
        (¬measured ∨ (¬fits ∧ q.rejects < 2) → u.su.rolls = s.su.rolls) ∧
        (measured ∧ (fits ∨ 2 ≤ q.rejects) → ∀ n r, s.ssq[st].runningRoll? = some n → s.roll? n = some r → ∃ len,
          len = min (r.label * 1000) (((ring.sum / ring.length) * (ring.sum / ring.length) -
            (r.core * 355 / 113) * (r.core * 355 / 113)) * 113000 / (1420 * r.caliper)) ∧
          u.roll? n = some { r with
            remaining := len, measured := true, stripped := some (r.stripped.getD ((r.remaining - len) / 1000)) }))

/-- A standby index pulse in ACCELERATING (R55, R56, R57, R69): the first opens counting; a second stable period matches at or
below the bound, measures the standby roll, makes the timer absent and makes the paste test (R70), and is a SPEED_MISMATCH above
it. The order of a manual splice is heeded by that test although the match clears it (DEDUCED, log 13). -/
def Obligations.StandbyIndexPulseMatches : Prop :=
  ∀ (s : State) (st : Stand) (arm run : Arm), s.ssq[st].present = true → s.ssq[st].running = some run → run ≠ arm →
    s.ssq[st].state = .accelerating →
    let q := s.pju.stand[st]
    let w := q.sbPeriod
    let x := s.ssq[st]
    let only := fun (r : StandProj) => exec (.indexPulse st arm) s =
      .next ({ s with pju := { s.pju with stand := s.pju.stand.set st r } } : State).finish
    (q.sbPhase = .discard → only { q with sbPhase := .counting, sbPeriod := 0 }) ∧
    (q.sbPhase = .counting → 65535 < w → only { q with prevW := none, sbPeriod := 0 }) ∧
    (q.sbPhase = .counting → w ≤ 65535 →
      (∀ v, q.prevW = some v → (max w v - min w v) * 1000 ≤ x.cfg.matchWindow * w → ∀ c, q.expected = some c →
        (w ≤ c * (1000 + x.cfg.matchWindow) / 1000 → ∃ u : State, exec (.indexPulse st arm) s = .next u.finish ∧
          u.pju.stand[st] = { q with lastW := some w, sbPeriod := 0 } ∧
          u = { s with nu := u.nu, ssq := s.ssq.set st u.ssq[st], su := { s.su with rolls := u.su.rolls }, inbox := u.inbox
                       pju := { s.pju with stand := s.pju.stand.set st u.pju.stand[st] } } ∧
          (∀ m, x.standbyRoll? ≠ some m → u.roll? m = s.roll? m) ∧ u.ssq[st].manual = false ∧ u.ssq[st].auto = x.auto ∧
          (∀ m y, x.runningRoll? = some m → x.standbyRoll? ≠ some m → s.roll? m = some y →
            let low : Prop := y.remaining ≤ q.force.minReserve * 1000
            let pastes : Prop := x.manual = true ∨ y.remaining ≤ q.force.reserve * 1000
            (low → u.ssq[st] = { x with state := .runout, timer := none, manual := false, fault := none } ∧
              u.nu.entries[srcStand st].pending.getLsbD 8 = true ∧
              (x.watch.fall = true → u.nu.entries[srcStand st].pending.getLsbD 2 = true)) ∧
            (¬low → u.nu = s.nu) ∧
            (¬low → pastes → u.ssq[st] = { x with
              state := .pasting, manual := false, timer := some (.paste, s.clk.tick + x.cfg.pasteCycle) }) ∧
            (¬low → ¬pastes → u.ssq[st] = { x with state := .matched, timer := none, manual := false })) ∧
          ∀ n r, x.standbyRoll? = some n → x.runningRoll? ≠ some n → s.roll? n = some r → ∃ len,
            len = min (r.label * 1000) ((w * w - (r.core * 355 / 113) * (r.core * 355 / 113)) * 113000 /
              (1420 * r.caliper)) ∧
            u.roll? n = some { r with
              remaining := len, stripped := some (r.stripped.getD ((r.remaining - len) / 1000)) }) ∧
        (c * (1000 + x.cfg.matchWindow) / 1000 < w → ∃ u : State, exec (.indexPulse st arm) s = .next u.finish ∧
          u = { s with nu := u.nu, ssq := u.ssq, pju := u.pju, inbox := u.inbox } ∧
          u.ssq = s.ssq.set st { x with
            state := .armed, timer := none, manual := false, auto := false, lastFault := some .speedMismatch } ∧
          u.pju.stand[st] = { q with lastW := some w, sbPeriod := 0 } ∧
          u.nu.entries[srcStand st].pending.getLsbD 6 = true ∧
          (x.watch.fall = true → u.nu.entries[srcStand st].pending.getLsbD 2 = true))) ∧
      (q.prevW = none ∨ (∃ v, q.prevW = some v ∧ x.cfg.matchWindow * w < (max w v - min w v) * 1000) →
        only { q with lastW := some w, prevW := some w, sbPeriod := 0 }))

/-! ## Reelstands (chapter 4) -/

/-- The refusals every stand request shares (R75), with the reply's stand state and AUTO, and the malformed operands of each. A
stand above 23 has neither to carry and is answered by the result code alone (DEDUCED, log 21), and an unknown value of STAND
RESOLVE is BAD_FRAME in every state but PASTING (DEDUCED, log 20). -/
def Obligations.StandRequestsShareTheirRefusals : Prop :=
  ∀ (s : State) (n : Nat),
    let shares := fun (c : Instr) =>
      (23 < n → exec c s = .next (s.reply ⟨.badFrame, []⟩).finish) ∧
      ∀ st : Stand, st.val = n →
        let told := bytesLE 1 s.ssq[st].state.code ++ flag s.ssq[st].auto
        (s.ssq[st].present = false → exec c s = .next (s.reply ⟨.badState, told⟩).finish) ∧
        (s.ssq[st].present = true → s.ssq[st].state = .pasting → exec c s = .next (s.reply ⟨.busy, told⟩).finish)
    let malformed := fun (c : Instr) => ∀ st : Stand, st.val = n → s.ssq[st].present = true → s.ssq[st].state ≠ .pasting →
      exec c s = .next (s.reply ⟨.badFrame, bytesLE 1 s.ssq[st].state.code ++ flag s.ssq[st].auto⟩).finish
    (∀ on, shares (.standAuto n on)) ∧ shares (.standSplice n) ∧ shares (.standThread n) ∧
    (∀ a, shares (.standResolve n a)) ∧ shares (.standEject n) ∧ (∀ a, shares (.standAssign n a)) ∧
    malformed (.standAuto n none) ∧ malformed (.standResolve n none) ∧
    (∀ g, malformed (.standAssign n (some (g, none)))) ∧ (∀ g w, 15 < g → malformed (.standAssign n (some (g, w)))) ∧
    (∀ x, malformed (.standConfig n none x)) ∧
    (∀ p x, 23 < n → exec (.standConfig n p x) s = .next (s.reply ⟨.badFrame, []⟩).finish) ∧
    (∀ (p : Option Presence) (x : StandCfgArg) (st : Stand), st.val = n → s.ssq[st].present = true →
      s.ssq[st].state = .pasting → exec (.standConfig n p x) s = .next (s.reply ⟨.busy,
        bytesLE 1 s.ssq[st].state.code ++ flag s.ssq[st].auto⟩).finish) ∧
    (∀ set, 23 < n → exec (.standWatch n set) s = .next (s.reply ⟨.badFrame, []⟩).finish) ∧
    ∀ (set : Nat) (st : Stand), st.val = n →
      (s.ssq[st].present = false → exec (.standWatch n set) s = .next (s.reply ⟨.badState,
        bytesLE 1 s.ssq[st].state.code ++ flag s.ssq[st].auto⟩).finish)

/-- STAND CONFIG (R59, R60): presence, the fields with their ranges, and the reserves handed to the Projection Unit, pending with a
running arm and in force at once without. ABSENT ignores the fields it names, in range or not: at an absent stand it answers OK with
the stand's values, at a present stand that may go OK with the defaults (DEDUCED, log 21). That a stand made absent keeps its
projection record, R, Rmin and A in force and pending among it, while its configuration returns to the defaults, is the model's
reading (DEDUCED, log 36: R60 resets the stand record alone, and R59 allows another). -/
def Obligations.StandConfigSetsPresenceAndFields : Prop :=
  ∀ (s : State) (st : Stand) (x : StandCfgArg),
    (s.ssq[st].present = true → s.ssq[st].state ≠ .pasting) → (∀ k : Stand, s.ssq[k].cfg.Ok) →
    let old : StandCfg := if s.ssq[st].present then s.ssq[st].cfg else ⟨80, 30, 40, 25, 180, 5, 800, 60⟩
    let r := max 20 (min 600 (x.reserve.getD old.reserve))
    let rm := x.minReserve.getD old.minReserve
    let al := x.accelLead.getD old.accelLead
    let li := x.accelLimit.getD old.accelLimit
    let pt := x.prepTime.getD old.prepTime
    let mw := x.matchWindow.getD old.matchWindow
    let pc := x.pasteCycle.getD old.pasteCycle
    let ej := x.ejectLimit.getD old.ejectLimit
    let cfg : StandCfg := ⟨r, max 5 (min (r - 5) rm), max 10 (min 120 al), max 5 (min 60 li), max 30 (min 900 pt),
      max 1 (min 50 mw), max 200 (min 3000 pc), max 5 (min 120 ej)⟩
    let res : Result := if cfg = ⟨x.reserve.getD old.reserve, rm, al, li, pt, mw, pc, ej⟩ then .ok else .okClamped
    let told := fun (u : State) (res : Result) (c : StandCfg) => some (⟨res, bytesLE 1 u.ssq[st].state.code ++
      flag u.ssq[st].auto ++ (bytesLE 2 c.reserve ++ bytesLE 2 c.minReserve ++ bytesLE 2 c.accelLead ++
      bytesLE 2 c.accelLimit ++ bytesLE 2 c.prepTime ++ bytesLE 1 c.matchWindow ++ bytesLE 4 c.pasteCycle ++
      bytesLE 2 c.ejectLimit)⟩ : Reply)
    (s.ssq[st].present = false → exec (.standConfig st.val (some .absent) x) s =
      .next ({ s with clp := { s.clp with lastReply := told s .ok s.ssq[st].cfg } } : State).finish) ∧
    (s.ssq[st].present = false → ∃ u : State, exec (.standConfig st.val (some .present) x) s = .next u.finish ∧
      u = { s with ssq := u.ssq, pju := u.pju, inbox := s.inbox ++ [.fpStand st (u.facts st) false true]
                   clp := { s.clp with lastReply := told u res cfg } } ∧
      u.ssq = s.ssq.set st { StandRec.reset with present := true, cfg := cfg } ∧
      u.pju = { s.pju with stand := s.pju.stand.set st { StandProj.reset with
        force := ⟨cfg.reserve, cfg.minReserve, cfg.accelLead⟩ } }) ∧
    (s.ssq[st].present = true → ∃ u : State, exec (.standConfig st.val (some .present) x) s = .next u.finish ∧
      u = { s with ssq := s.ssq.set st { s.ssq[st] with cfg := cfg }, pju := u.pju
                   inbox := s.inbox ++ (if cfg = old then [] else [.fpStand st (u.facts st) false false])
                   clp := { s.clp with lastReply := told u res cfg } } ∧
      u.pju = (if cfg.reserve = old.reserve ∧ cfg.minReserve = old.minReserve ∧ cfg.accelLead = old.accelLead then s.pju
        else { s.pju with stand := s.pju.stand.set st (if s.ssq[st].running = none then { s.pju.stand[st] with
          force := ⟨cfg.reserve, cfg.minReserve, cfg.accelLead⟩, pend := none } else { s.pju.stand[st] with
          pend := some ⟨cfg.reserve, cfg.minReserve, cfg.accelLead⟩ }) })) ∧
    (s.ssq[st].present = true → s.ssq[st].state = .empty → s.ssq[st].loading = none → s.fp.stands[st].task = none →
      ∃ u : State, exec (.standConfig st.val (some .absent) x) s = .next u.finish ∧
        u = { s with ssq := s.ssq.set st StandRec.reset, inbox := s.inbox ++ [.fpStand st (u.facts st) false true]
                     clp := { s.clp with lastReply := told u .ok ⟨80, 30, 40, 25, 180, 5, 800, 60⟩ } }) ∧
    (s.ssq[st].present = true → (s.ssq[st].state ≠ .empty ∨ s.ssq[st].loading ≠ none ∨ s.fp.stands[st].task ≠ none) →
      exec (.standConfig st.val (some .absent) x) s = .next (s.reply ⟨.locked,
        bytesLE 1 s.ssq[st].state.code ++ flag s.ssq[st].auto⟩).finish)

/-- STAND AUTO, STAND ASSIGN and STAND WATCH (R68, R76, R81, R82) at a present stand: each writes its field; AUTO on makes the
acceleration test in ARMED, AUTO off ends ACCELERATING and MATCHED. That AUTO on is handed to the Feed Planner when AUTO is
already on is the model's (DESIGN CHOICE, log 59). -/
def Obligations.StandSettingsWriteTheirField : Prop :=
  ∀ (s : State) (st : Stand), s.ssq[st].present = true →
    let x := s.ssq[st]
    let told := fun (u : State) (more : List Byte) =>
      some (⟨.ok, bytesLE 1 u.ssq[st].state.code ++ flag u.ssq[st].auto ++ more⟩ : Reply)
    let go : Prop := x.state = .armed ∧ s.pins[pressOf st].run = true ∧ x.running ≠ none ∧
      ∃ t, s.pju.stand[st].time = some t ∧ t ≤ s.pju.stand[st].force.lead
    (x.state ≠ .pasting → ¬go → ∃ u : State, exec (.standAuto st.val (some true)) s = .next u.finish ∧
      u = { s with ssq := s.ssq.set st { x with auto := true }, clp := { s.clp with lastReply := told u [] }
                   inbox := s.inbox ++ [.fpStand st (u.facts st) true false] }) ∧
    (go → ∃ u : State, exec (.standAuto st.val (some true)) s = .next u.finish ∧
      u = { s with ssq := u.ssq, pju := u.pju, inbox := u.inbox, clp := { s.clp with lastReply := told u [] } } ∧
      u.ssq = s.ssq.set st { x with
        auto := true, state := .accelerating, timer := some (.accel, s.clk.tick + x.cfg.accelLimit * 1000) } ∧
      (∃ f : StandFacts, f.auto = true ∧ Msg.fpStand st f true false ∈ u.inbox) ∧
      u.pju = { s.pju with stand := s.pju.stand.set st { s.pju.stand[st] with
        expected := u.pju.stand[st].expected, sbPhase := .discard, sbPeriod := 0, prevW := none, lastW := none } } ∧
      ∀ n r, x.standbyRoll? = some n → s.roll? n = some r → u.pju.stand[st].expected = some (isqrt
        ((r.core * 355 / 113) * (r.core * 355 / 113) + r.remaining * 1420 * r.caliper / 113000))) ∧
    (x.state = .accelerating ∨ x.state = .matched → ∃ u : State, exec (.standAuto st.val (some false)) s = .next u.finish ∧
      u = { s with
        ssq := s.ssq.set st { x with state := .armed, timer := none, manual := false, auto := false }
        nu := if x.watch.fall then s.nu.raise (srcStand st) (Reason.bit .armedFall) else s.nu
        inbox := s.inbox ++ [.fpStand st (u.facts st) false false], clp := { s.clp with lastReply := told u [] } }) ∧
    (x.state ≠ .accelerating → x.state ≠ .matched → x.state ≠ .pasting → ∃ u : State,
      exec (.standAuto st.val (some false)) s = .next u.finish ∧
      u = { s with ssq := s.ssq.set st { x with auto := false }, clp := { s.clp with lastReply := told u [] }
                   inbox := s.inbox ++ (if x.auto then [.fpStand st (u.facts st) false false] else []) }) ∧
    (x.state ≠ .pasting → ∀ (a : Option (Nat × WidthClass)), (∀ g w, a = some (g, w) → g ≤ 15) → ∃ u : State,
      exec (.standAssign st.val (a.map (fun y => (y.1, some y.2)))) s = .next u.finish ∧
      u = { s with ssq := s.ssq.set st { x with assignment := a }, clp := { s.clp with lastReply := told u [] }
                   inbox := s.inbox ++ (if x.assignment = a then [] else [.fpStand st (u.facts st) false false]) }) ∧
    ∀ (set : Nat), (15 < set → exec (.standWatch st.val set) s = .next (s.reply ⟨.badFrame,
        bytesLE 1 x.state.code ++ flag x.auto⟩).finish) ∧
      (set ≤ 15 → ∃ u : State, exec (.standWatch st.val set) s = .next u.finish ∧
        u = { s with
          ssq := s.ssq.set st { x with watch := ⟨set.testBit 0, set.testBit 1, set.testBit 2⟩ }
          nu := if set.testBit 3 then s.nu.raise (srcStand st) (Reason.bit .watchNow) else s.nu
          inbox := u.inbox, clp := { s.clp with lastReply := told u (bytesLE 2 (set % 8)) } })

/-- STAND SPLICE (R77), STAND THREAD (R78) and STAND EJECT (R80): when each is taken and what it does; refused otherwise. STAND
SPLICE in MATCHED with a remaining length of exactly Rmin × 1000 is RUNOUT by R70's first row, though R77 names PASTING (DEDUCED,
log 45). -/
def Obligations.SpliceThreadAndEjectRequests : Prop :=
  (∀ (s : State) (st : Stand), s.ssq[st].present = true → s.ssq[st].state ≠ .pasting →
    let x := s.ssq[st]
    let len := ((x.runningRoll?.bind s.roll?).map (fun r : RollRec => r.remaining)).getD 0
    let may : Prop := x.state ∈ [.armed, .accelerating, .matched] ∧ x.running ≠ none ∧ s.pins[pressOf st].run = true ∧
      s.pju.stand[st].force.minReserve * 1000 ≤ len
    (¬may → exec (.standSplice st.val) s = .next (s.reply ⟨.badState, bytesLE 1 x.state.code ++ flag x.auto⟩).finish) ∧
    (may → ∃ u : State, exec (.standSplice st.val) s = .next u.finish ∧
      u = { s with ssq := s.ssq.set st u.ssq[st], inbox := u.inbox, nu := u.nu
                   pju := { s.pju with stand := s.pju.stand.set st u.pju.stand[st] }
                   clp := { s.clp with lastReply := some ⟨.ok, bytesLE 1 u.ssq[st].state.code ++ flag u.ssq[st].auto⟩ } } ∧
      (x.state = .armed → u.nu = s.nu ∧ u.ssq[st] = { x with
        manual := true, state := .accelerating, timer := some (.accel, s.clk.tick + x.cfg.accelLimit * 1000) }) ∧
      (x.state = .accelerating → u.nu = s.nu ∧ u.pju = s.pju ∧ u.ssq[st] = { x with manual := true }) ∧
      (x.state = .matched → u.pju = s.pju ∧
        (s.pju.stand[st].force.minReserve * 1000 < len → u.nu = s.nu ∧ u.ssq[st] = { x with
          manual := true, state := .pasting, timer := some (.paste, s.clk.tick + x.cfg.pasteCycle) }) ∧
        (s.pju.stand[st].force.minReserve * 1000 = len → u.ssq[st].state = .runout)))) ∧
  ∀ (s : State) (st : Stand), s.ssq[st].present = true → s.ssq[st].state ≠ .pasting →
    let x := s.ssq[st]
    let ready : Prop := ∃ n, x.standbyRoll? = some n ∧ s.su.rollState? n = some .standby
    let mayThread : Prop := ready ∧ (x.state = .runout ∨ (x.state = .preparing ∨ x.state = .armed) ∧ x.running = none)
    let mayEject : Prop := ready ∧ x.state ∈ [.preparing, .armed, .runout]
    let refused : Out := .next (s.reply ⟨.badState, bytesLE 1 x.state.code ++ flag x.auto⟩).finish
    let timer := some (TimerPurpose.eject, s.clk.tick + x.cfg.ejectLimit * 1000)
    let butt := fun (r : RollRec) => ({ r with
      state := .butt, reservation := none, butt := some (r.remaining / 1000), remaining := 0
      spliceOut := some s.clk.hall } : RollRec)
    (¬mayThread → exec (.standThread st.val) s = refused) ∧
    (¬mayEject → exec (.standEject st.val) s = refused) ∧
    (mayThread → ∀ n, x.standbyRoll? = some n → x.runningRoll? ≠ some n → ∃ u : State,
      exec (.standThread st.val) s = .next u.finish ∧
      u = { s with
        ssq := u.ssq, su := { s.su with rolls := u.su.rolls }, inbox := u.inbox
        pju := { s.pju with stand := s.pju.stand.set st u.pju.stand[st] }
        clp := { s.clp with lastReply := some ⟨.ok, bytesLE 1 u.ssq[st].state.code ++ flag x.auto⟩ } } ∧
      u.ssq = s.ssq.set st { x with
        running := some x.standbyArm, prepStart := none, state := if x.running = none then .single else .butt
        timer := if x.running = none then x.timer else timer } ∧
      u.su.rolls = s.su.rolls.map (fun r => if x.runningRoll? = some r.num then butt r
        else if r.num = n then { r with state := .running, reservation := none, spliceIn := some s.clk.hall } else r) ∧
      u.pju.stand[st].ring = [] ∧ u.pju.stand[st].runPhase = .discard ∧ u.pju.stand[st].time ≠ none) ∧
    (mayEject → ∀ n, x.standbyRoll? = some n → ∃ u : State, exec (.standEject st.val) s = .next u.finish ∧
      u = { s with
        ssq := s.ssq.set st { x with
          timer := timer, prepStart := none, state := if x.state = .runout then .runout else .butt }
        su := { s.su with rolls := s.su.rolls.map (fun r => if r.num = n then butt r else r) }
        inbox := s.inbox ++ [.fpStand st (u.facts st) false false]
        clp := { s.clp with lastReply := some ⟨.ok, bytesLE 1 u.ssq[st].state.code ++ flag x.auto⟩ } })

/-- A splice (R71, R79, R166): PASTED in PASTING, stamped with the hall time and the gross count of the moment, and a resolve with
PASTED_YES in FAULT, with those of the fault. The roles change as one event, and T and the deadline are formed for the new running
roll at once (R52, R53). PASTED leaves the line as it was; STAND RESOLVE answers OK with the state after, BUTT, and AUTO after
(R75). That R166's test of the stamp alone decides, after a COUNT CLEAR too, is DEDUCED (log 57). -/
def Obligations.SpliceChangesTheRoles : Prop :=
  ∀ (s : State) (st : Stand) (c : Instr) (time stamp old new : Nat),
    let x := s.ssq[st]
    let p := pressOf st
    ((c = .pastedRise st ∧ x.state = .pasting ∧ time = s.clk.hall ∧ stamp = s.cu[p].totals.gross) ∨
      (c = .standResolve st.val (some .pastedYes) ∧ x.present = true ∧ x.state = .fault ∧
        ∃ f, x.fault = some f ∧ time = f.entry ∧ stamp = f.copies)) →
    x.runningRoll? = some old → x.standbyRoll? = some new → old ≠ new → ∃ u : State, exec c s = .next u.finish ∧
      u = { s with
        ssq := u.ssq, su := { s.su with rolls := u.su.rolls }, cu := u.cu, nu := s.nu.raise (srcStand st) (Reason.bit .spliced)
        pju := { s.pju with stand := s.pju.stand.set st u.pju.stand[st] }, inbox := u.inbox, clp := u.clp } ∧
      (c = .pastedRise st → u.clp = s.clp) ∧
      (c ≠ .pastedRise st → u.clp = { s.clp with lastReply := some ⟨.ok, bytesLE 1 2 ++ flag (x.auto && !x.autoClear)⟩ }) ∧
      u.ssq = s.ssq.set st { x with
        running := some x.standbyArm, state := .butt, ejectFault := false, manual := false, prepStart := none, fault := none
        timer := some (.eject, s.clk.tick + x.cfg.ejectLimit * 1000), auto := x.auto && !x.autoClear, autoClear := false } ∧
      u.su.rolls = s.su.rolls.map (fun r =>
        if r.num = old then { r with
          state := .butt, reservation := none, butt := some (r.remaining / 1000), remaining := 0, spliceOut := some time }
        else if r.num = new then { r with state := .running, reservation := none, spliceIn := some time } else r) ∧
      u.cu = s.cu.set p { s.cu[p] with splices :=
        if stamp ≤ s.cu[p].totals.gross then s.cu[p].splices.filter (fun e => e.stand != st) ++ [⟨st, new, stamp⟩]
        else s.cu[p].splices } ∧
      (∃ t d, u.pju.stand[st] = { s.pju.stand[st] with
        ring := [], rejects := 0, indexFault := false, runPhase := .discard, runPeriod := 0, faultDist := 0
        time := some t, deadline := some d } ∧ Msg.fpTime st t d ∈ u.inbox ∧ ∀ r, s.roll? new = some r →
        t = (if s.pju.press[p].speed = 0 then 65535 else
          min 65535 ((r.remaining - s.pju.stand[st].force.reserve * 1000) / s.pju.press[p].speed)) ∧
        d = min 4294967295 (s.clk.hall + (t - (s.pju.stand[st].force.lead + x.cfg.prepTime)))) ∧
      Msg.fpStand st (u.facts st) false false ∈ u.inbox

/-- PASTED and STAND RESOLVE where they take no splice (R72, R79; a return to ARMED clears manual splice, R77), and the three
expiries of the sequence timer (R69, R72, R73); each does nothing when its state does not hold. PREP and BUTT_CLR (R63, R67, R73):
PREP arms a stand in PREPARING and makes the acceleration test; BUTT_CLR clears a butt on the standby arm, whose roll is SPENT,
and tells the fleet. The expiries are the moments themselves and act at any tick (DEDUCED, log 8). That BUTT_CLR tells the fleet
before the Feed Planner is the model's (DESIGN CHOICE, log 1). -/
def Obligations.SequenceEventsActByTheirState : Prop :=
  ((∀ (s : State) (st : Stand),
    let x := s.ssq[st]
    (x.state ≠ .pasting → x.state ≠ .fault → exec (.pastedRise st) s = .next s.finish) ∧
    (x.state = .fault → ∀ f, x.fault = some f → exec (.pastedRise st) s = .next ({ s with
      ssq := s.ssq.set st { x with fault := some { f with lateConfirm := true } } } : State).finish) ∧
    (x.present = true → x.state ≠ .pasting → x.state ≠ .fault → ∀ a, exec (.standResolve st.val (some a)) s =
      .next (s.reply ⟨.badState, bytesLE 1 x.state.code ++ flag x.auto⟩).finish) ∧
    (x.present = true → x.state = .fault → x.fault ≠ none → ∃ u : State,
      exec (.standResolve st.val (some .pastedNo)) s = .next u.finish ∧
      u = { s with
        ssq := s.ssq.set st { x with state := .armed, auto := false, manual := false, fault := none }
        pju := { s.pju with stand := s.pju.stand.set st { s.pju.stand[st] with
          indexFault := false, runPhase := .discard, runPeriod := 0, faultDist := 0 } }
        inbox := s.inbox ++ [.fpStand st (u.facts st) false false]
        clp := { s.clp with lastReply := some ⟨.ok, bytesLE 1 5 ++ bytesLE 1 0⟩ } })) ∧
  ∀ (s : State) (st : Stand),
    let x := s.ssq[st]
    let fall := fun (nu : NoticeUnit) => if x.watch.fall then nu.raise (srcStand st) (Reason.bit .armedFall) else nu
    let fault := s.nu.raise (srcStand st) (Reason.bit .spliceFault)
    (x.state ≠ .accelerating → exec (.accelTimeout st) s = .next s.finish) ∧
    (x.state = .accelerating → ∃ u : State, exec (.accelTimeout st) s = .next u.finish ∧
      u = { s with
        ssq := s.ssq.set st { x with
          state := .armed, timer := none, manual := false, auto := false, lastFault := some .accelTimeout }
        nu := fall fault, inbox := s.inbox ++ [.fpStand st (u.facts st) false false] }) ∧
    (x.state ≠ .pasting → exec (.pasteTimeout st) s = .next s.finish) ∧
    (x.state = .pasting → ∃ u : State, exec (.pasteTimeout st) s = .next u.finish ∧
      u = { s with
        ssq := s.ssq.set st { x with
          state := .fault, timer := none, auto := false, autoClear := false, lastFault := some .noConfirm
          fault := some ⟨s.clk.hall, s.cu[pressOf st].totals.gross, false⟩ }
        nu := fall fault, inbox := s.inbox ++ [.fpStand st (u.facts st) false false] }) ∧
    ((∀ e, x.timer ≠ some (.eject, e)) → exec (.ejectTimeout st) s = .next s.close) ∧
    ∀ e, x.timer = some (.eject, e) → exec (.ejectTimeout st) s = .next ({ s with
      ssq := s.ssq.set st { x with timer := none, ejectFault := true }
      nu := s.nu.raise (srcStand st) (Reason.bit .ejectFault) } : State).close) ∧
  ∀ (s : State) (st : Stand),
    let x := s.ssq[st]
    let go : Prop := x.auto = true ∧ s.pins[pressOf st].run = true ∧ x.running ≠ none ∧
      ∃ t, s.pju.stand[st].time = some t ∧ t ≤ s.pju.stand[st].force.lead
    let butt := fun (n : Nat) => x.standbyRoll? = some n ∧ s.su.rollState? n = some .butt
    (x.state ≠ .preparing → exec (.prepRise st) s = .next s.finish) ∧
    (x.state = .preparing → ∃ u : State, exec (.prepRise st) s = .next u.finish ∧
      u = { s with
        ssq := s.ssq.set st u.ssq[st], pju := { s.pju with stand := s.pju.stand.set st u.pju.stand[st] }, inbox := u.inbox
        nu := if x.watch.rise then s.nu.raise (srcStand st) (Reason.bit .armedRise) else s.nu } ∧
      (¬go → u.ssq[st] = { x with state := .armed } ∧ u.pju = s.pju ∧
        u.inbox = s.inbox ++ [.fpStand st (u.facts st) false false]) ∧
      (go → u.ssq[st] = { x with
        state := .accelerating, timer := some (.accel, s.clk.tick + x.cfg.accelLimit * 1000) })) ∧
    ((∀ n, ¬butt n) → exec (.buttClrRise st) s = .next s.finish) ∧
    ∀ n, butt n → ∃ u : State, exec (.buttClrRise st) s = .next u.finish ∧
      u = { s with
        ssq := s.ssq.set st u.ssq[st], inbox := s.inbox ++ [.fdArmClear st, .fpStand st (u.facts st) false false]
        su := { s.su with rolls := s.su.rolls.map (fun r =>
          if r.num = n then { r with state := .spent, loc := .none, reservation := none } else r) } } ∧
      u.ssq[st] = { x with
        armA := if x.standbyArm = .a then none else x.armA, armB := if x.standbyArm = .b then none else x.armB
        timer := none, ejectFault := false
        state := if x.state = .runout then .runout else if x.running = none then .empty else .single }

/-- The edges of RUN and BREAK (R63, R69, R70, R165): RUN's edges close the open waste run, a rise sets the startup mark and
makes the acceleration tests, a fall brings ACCELERATING and MATCHED stands of the press back to ARMED with AUTO kept; BREAK
sets the break mark. -/
def Obligations.PressEdgesActOnCountsAndStands : Prop :=
  ∀ (s : State) (p : Press),
    let closed := s.cu[p].ring.map (fun x : WasteRun => { x with isOpen := false })
    exec (.breakRise p) s = .next { s with cu := s.cu.set p { s.cu[p] with breakMark := true } } ∧
    (∃ u : State, exec (.pressRunRise p) s = .next u.finish ∧
      u = { s with ssq := u.ssq, pju := { s.pju with stand := u.pju.stand }, inbox := u.inbox
                   pins := s.pins.set p { s.pins[p] with run := true }
                   cu := s.cu.set p { s.cu[p] with ring := closed, startupMark := true } } ∧
      ∀ st : Stand,
        let x := s.ssq[st]
        let go : Prop := st.val / 6 = p.val ∧ x.state = .armed ∧ x.auto = true ∧ x.running ≠ none ∧
          ∃ t, s.pju.stand[st].time = some t ∧ t ≤ s.pju.stand[st].force.lead
        (¬go → u.ssq[st] = x ∧ u.pju.stand[st] = s.pju.stand[st]) ∧
        (go → u.ssq[st] = { x with
          state := .accelerating, timer := some (.accel, s.clk.tick + x.cfg.accelLimit * 1000) })) ∧
    ∃ u : State, exec (.pressRunFall p) s = .next u.finish ∧
      u = { s with ssq := u.ssq, inbox := u.inbox, pins := s.pins.set p { s.pins[p] with run := false }
                   cu := s.cu.set p { s.cu[p] with ring := closed } } ∧
      ∀ st : Stand, u.ssq[st] = if st.val / 6 = p.val ∧ (s.ssq[st].state = .accelerating ∨ s.ssq[st].state = .matched)
        then { s.ssq[st] with state := .armed, timer := none, manual := false } else s.ssq[st]

/-! ## Spoilage counting (chapter 9) -/

/-- A completed copy (R163 to R170, R172): classed by GATE and polarity, counted in both scopes or refused whole when saturated;
runs opened, extended or closed; RUNNING rolls of the press charged; edition tests made; pending values taken into force. And
COPY_PULSE (R162): an edge of the kind in force raises the prescaler, and the last one of a copy completes it; another edge leaves
the counts. The GATE level is the one sampled with the edge. COPY_COMPLETE as a command of its own is that moment, whatever the
prescaler, and does nothing with edge NONE (DEDUCED, log 8). -/
def Obligations.CopiesCountOrAreRefusedWhole : Prop :=
  (∀ (s : State) (p : Press) (gate : Bool),
    let r := s.cu[p]
    let full := r.totals.gross = 4294967295 ∨ r.edition.gross = 4294967295
    let waste : Bool := gate == (r.polarity == .wasteHigh)
    let boundary := fun (x : CountRec) => ({ x with
      prescaler := 0, pulses := r.pendPulses.getD r.pulses, edge := r.pendEdge.getD r.edge, pendPulses := none
      pendEdge := none } : CountRec)
    let g := r.totals.gross + 1
    let bump := fun (c : Scope) (w : WasteReason) => ({ c with
      gross := c.gross + 1, waste := c.waste + 1, brk := c.brk + (if w = .brk then 1 else 0)
      startup := c.startup + (if w = .startup then 1 else 0), splice := c.splice + (if w = .splice then 1 else 0)
      plate := c.plate + (if w = .plate then 1 else 0), other := c.other + (if w = .other then 1 else 0) } : Scope)
    (r.edge = .none → exec (.copyComplete p gate) s = .next s) ∧
    (r.edge ≠ .none → full → exec (.copyComplete p gate) s = .next ({ s with
      pins := s.pins.set p { s.pins[p] with gate := gate }, cu := s.cu.set p { boundary r with saturated := true }
      nu := if r.saturated then s.nu else s.nu.raise (srcPress p) (Reason.bit .countSaturated) } : State).close) ∧
    (r.edge ≠ .none → ¬full → r.Ok → ∃ u : State, exec (.copyComplete p gate) s = .next u.close ∧
      u = { s with pins := s.pins.set p { s.pins[p] with gate := gate }, cu := s.cu.set p u.cu[p], nu := u.nu
                   su := { s.su with rolls := u.su.rolls } } ∧
      (¬waste → u.cu[p] = { boundary r with
          totals := { r.totals with gross := g, good := r.totals.good + 1 }
          edition := { r.edition with gross := r.edition.gross + 1, good := r.edition.good + 1 }
          ring := r.ring.map (fun x => { x with isOpen := false }), startupMark := false
          targetReached := r.targetReached || (r.target != 0 && r.edition.good + 1 == r.target)
          allowancePassed := r.allowancePassed || (r.allowance != 0 && decide (r.allowance < r.edition.waste)) }) ∧
      (waste → u.cu[p] = { boundary r with
          totals := u.cu[p].totals, edition := u.cu[p].edition, ring := u.cu[p].ring, lastRun := u.cu[p].lastRun
          breakMark := u.cu[p].breakMark, plateMark := u.cu[p].plateMark, targetReached := u.cu[p].targetReached
          allowancePassed := u.cu[p].allowancePassed } ∧
        (∀ o, u.cu[p].ring.getLast? = some o →
          u.cu[p].totals = bump r.totals o.reason ∧ u.cu[p].edition = bump r.edition o.reason) ∧
        u.cu[p].allowancePassed = (r.allowancePassed || (r.allowance != 0 && decide (r.allowance < r.edition.waste + 1))) ∧
        (∀ a o, r.ring = a ++ [o] → o.isOpen = true → u.cu[p].ring = a ++ [{ o with copies := o.copies + 1 }] ∧
          u.cu[p].lastRun = r.lastRun ∧ u.cu[p].breakMark = r.breakMark ∧ u.cu[p].plateMark = r.plateMark) ∧
        ((∀ o ∈ r.ring, o.isOpen = false) →
          let near := r.splices.filter (fun e => decide (e.stamp < g ∧ g - e.stamp ≤ r.window))
          let num := if r.lastRun < 65535 then r.lastRun + 1 else 1
          ∃ why cause, u.cu[p].ring = (if r.ring.length < 16 then r.ring else r.ring.tail) ++
              [⟨num, g, 1, why, cause, true⟩] ∧ u.cu[p].lastRun = num ∧
            why = (if r.breakMark then .brk else if r.startupMark then .startup else if near ≠ [] then .splice
              else if r.plateMark then .plate else .other) ∧
            (why ≠ .splice → cause = none) ∧
            (why = .splice → ∃ a e b, near = a ++ e :: b ∧ cause = some (e.stand, e.roll) ∧ (∀ e' ∈ a, e'.stamp ≤ e.stamp) ∧
              ∀ e' ∈ b, e'.stamp < e.stamp) ∧
            u.cu[p].breakMark = (if why = .brk then false else r.breakMark) ∧
            u.cu[p].plateMark = (if why = .plate then false else r.plateMark))) ∧
      (∀ n x, s.su.TablesOk → s.roll? n = some x →
        let runs : Bool := x.state == .running && (match x.loc with
          | .stand st _ => pressOf st == p
          | _ => false)
        ∃ x', u.roll? n = some x' ∧ x' = { x with good := x'.good, waste := x'.waste, spliceWaste := x'.spliceWaste } ∧
          x'.good = (if runs ∧ ¬waste then min 4294967295 (x.good + 1) else x.good) ∧
          x'.waste = (if runs ∧ waste then min 4294967295 (x.waste + 1) else x.waste) ∧
          x'.spliceWaste = if waste ∧ (u.cu[p].ring.getLast?.bind (fun o : WasteRun => o.cause)).map (fun y : Stand × Nat => y.2) = some n then
            min 4294967295 (x.spliceWaste + 1) else x.spliceWaste) ∧
      (u.cu[p].targetReached = true → r.targetReached = false → u.nu.entries[srcPress p].pending.getLsbD 4 = true) ∧
      (u.cu[p].allowancePassed = true → r.allowancePassed = false → u.nu.entries[srcPress p].pending.getLsbD 5 = true))) ∧
  ∀ (s : State) (p : Press) (edge : PinEdge) (gate : Bool),
    let r := s.cu[p]
    let takes := r.edge = .both ∨ (r.edge = .rising ∧ edge = .rising) ∨ (r.edge = .falling ∧ edge = .falling)
    let pins := s.pins.set p { s.pins[p] with gate := gate }
    (¬takes → exec (.copyPulse p edge gate) s = .next ({ s with pins := pins } : State).close) ∧
    (takes → r.prescaler + 1 < r.pulses → exec (.copyPulse p edge gate) s = .next ({ s with
      pins := pins, cu := s.cu.set p { r with prescaler := r.prescaler + 1 } } : State).close) ∧
    (takes → r.pulses ≤ r.prescaler + 1 → exec (.copyPulse p edge gate) s = exec (.copyComplete p gate) s)

/-- PRESS CONFIG (R42, R161, R162): clamped fields, the scale pending at the Projection Unit, pulses and edge pending or, with
the prescaler at 0, in force at once; the 2 bytes of the scale and the order of the reply, each value in force before its pending
one, are the model's (DEDUCED, log 19). EDITION (R172) and COUNT CLEAR (R174): what each clears and what it keeps; the reply
carries the totals as they stood. -/
def Obligations.PressConfigEditionAndCountClear : Prop :=
  (∀ (s : State) (n : Nat) (c : PressCfgArg),
    (3 < n ∨ c.copyEdge = some none ∨ c.polarity = some none →
      exec (.pressConfig n c) s = .next (s.reply ⟨.badFrame, []⟩)) ∧
    ∀ p : Press, p.val = n → c.copyEdge ≠ some none → c.polarity ≠ some none →
      let r := s.cu[p]
      let pulses := (c.pulses.map (fun x => max 1 (min 4 x))).orElse (fun _ => r.pendPulses)
      let edge := c.copyEdge.join.orElse (fun _ => r.pendEdge)
      let now : Bool := decide (r.prescaler = 0) && (c.pulses.isSome || c.copyEdge.isSome)
      let r' : CountRec := { r with
        cutOff := (c.cutOff.map (fun x => max 400 (min 700 x))).getD r.cutOff
        polarity := c.polarity.join.getD r.polarity, window := (c.window.map (fun x => min 2000 x)).getD r.window
        pulses := if now then pulses.getD r.pulses else r.pulses, edge := if now then edge.getD r.edge else r.edge
        pendPulses := if now then none else pulses, pendEdge := if now then none else edge }
      let scale := (c.scale.map (fun x => max 500 (min 4000 x))).orElse (fun _ => s.pju.press[p].pendScale)
      let inRange := c.scale.all (fun x => decide (500 ≤ x ∧ x ≤ 4000)) && c.cutOff.all (fun x => decide (400 ≤ x ∧ x ≤ 700)) &&
        c.pulses.all (fun x => decide (1 ≤ x ∧ x ≤ 4)) && c.window.all (fun x => decide (x ≤ 2000))
      exec (.pressConfig n c) s = .next { s with
        pju := { s.pju with press := s.pju.press.set p { s.pju.press[p] with pendScale := scale } }
        cu := s.cu.set p r'
        clp := { s.clp with lastReply := some ⟨if inRange then .ok else .okClamped,
          bytesLE 2 s.pju.press[p].scale ++ optField (bytesLE 2) scale ++ bytesLE 2 r'.cutOff ++ bytesLE 1 r'.pulses ++
          optField (bytesLE 1) r'.pendPulses ++ bytesLE 1 (CopyEdge.code r'.edge) ++
          optField (fun e => bytesLE 1 (CopyEdge.code e)) r'.pendEdge ++ bytesLE 1 (GatePolarity.code r'.polarity) ++
          bytesLE 2 r'.window⟩ } }) ∧
  ∀ (s : State) (n target allowance : Nat),
    let zero : Scope := ⟨0, 0, 0, 0, 0, 0, 0, 0, 0⟩
    (3 < n → exec (.edition n target allowance) s = .next (s.reply ⟨.badFrame, []⟩) ∧
      exec (.countClear n) s = .next (s.reply ⟨.badFrame, []⟩)) ∧
    ∀ p : Press, p.val = n →
      let r := s.cu[p]
      let totals := bytesLE 4 r.totals.gross ++ bytesLE 4 r.totals.good ++ bytesLE 4 r.totals.waste ++
        bytesLE 4 r.totals.brk ++ bytesLE 4 r.totals.startup ++ bytesLE 4 r.totals.splice ++ bytesLE 4 r.totals.plate ++
        bytesLE 4 r.totals.other ++ bytesLE 4 r.totals.web
      (target ≤ 4294967295 → allowance ≤ 4294967295 → exec (.edition n target allowance) s = .next { s with
        cu := s.cu.set p { r with
          edition := zero, target := target, allowance := allowance, targetReached := false, allowancePassed := false
          saturated := r.saturated && r.totals.gross == 4294967295 }
        clp := { s.clp with lastReply := some ⟨.ok, totals⟩ } }) ∧
      exec (.countClear n) s = .next { s with
        cu := s.cu.set p { r with
          totals := zero, edition := zero, ring := [], splices := [], targetReached := false, allowancePassed := false
          saturated := false }
        clp := { s.clp with lastReply := some ⟨.ok, totals⟩ } }

/-- PLATE (R173), whole: a press above 3 or another action is refused; SET sets the mark, CANCEL clears it, the reply carries
it; a run already open keeps its reason; the next run that takes reason PLATE consumes it. -/
def Obligations.PlateSetsTheMark : Prop :=
  (∀ (s : State) (n : Nat) (a : Option PlateAction),
    (3 < n ∨ a = none → exec (.plate n a) s = .next (s.reply ⟨.badFrame, []⟩)) ∧
    ∀ (p : Press) (x : PlateAction), p.val = n → a = some x → exec (.plate n a) s = .next { s with
      cu := s.cu.set p { s.cu[p] with plateMark := x == .set }
      clp := { s.clp with lastReply := some ⟨.ok, bytesLE 1 (if x = .set then 1 else 0)⟩ } }) ∧
  ∀ (r : CountRec) (g : Nat), (r.startRun g).plateMark = (r.plateMark && (r.openReason g).1 != .plate)

/-! ## Feeding (chapter 5), the hall second and the delays -/

/-- PRESS RELEASE (R100) and PRESS FEED CONFIG (R101). A release turns STOP off, sets the mark and raises STOP_OFF; with STOP
off it changes nothing. The four values of the configuration are clamped; omitted ones stay. -/
def Obligations.PressReleaseAndFeedConfig : Prop :=
  ∀ s : State,
    (∀ n : Nat, 3 < n → exec (.pressRelease n) s = .next (s.reply ⟨.badFrame, []⟩).close) ∧
    (∀ p : Press,
      let o := s.fp.presses[p]
      let answer := (some ⟨.ok, bytesLE 1 o.slow.toNat ++ bytesLE 1 0⟩ : Option Reply)
      (o.stop = true → exec (.pressRelease p.val) s = .next ({ s with
        fp := { s.fp with presses := s.fp.presses.set p { o with stop := false, release := true } }
        nu := s.nu.raise (srcPress p) (Reason.bit .stopOff), clp := { s.clp with lastReply := answer } } : State).close) ∧
      (o.stop = false → exec (.pressRelease p.val) s =
        .next ({ s with clp := { s.clp with lastReply := answer } } : State).close)) ∧
    ∀ e m pk pl : Option Nat,
      let e' := (e.map (fun x => max 30 (min 1800 x))).getD s.fp.estimate
      let m' := (m.map (fun x => max 10 (min 600 x))).getD s.fp.margin
      let pk' := (pk.map (fun x => max 10 (min 300 x))).getD s.fp.pickOverhead
      let pl' := (pl.map (fun x => max 10 (min 300 x))).getD s.fp.placeOverhead
      let inRange := e.all (fun x => decide (30 ≤ x ∧ x ≤ 1800)) && m.all (fun x => decide (10 ≤ x ∧ x ≤ 600)) &&
        pk.all (fun x => decide (10 ≤ x ∧ x ≤ 300)) && pl.all (fun x => decide (10 ≤ x ∧ x ≤ 300))
      exec (.pressFeedConfig e m pk pl) s = .next { s with
        fp := { s.fp with estimate := e', margin := m', pickOverhead := pk', placeOverhead := pl' }
        clp := { s.clp with lastReply := some ⟨if inRange then .ok else .okClamped,
          bytesLE 2 e' ++ bytesLE 2 m' ++ bytesLE 2 pk' ++ bytesLE 2 pl'⟩ } }

/-- A hall second (R10, R191): hall time rises by one up to its limit, every CONDITIONING roll whose ready time has come is READY
with its other fields kept, ROLL_READY is raised and a retry cause given when one is; counts, pins, the projection and every other
roll stay. The hold timeout of a wait (R117) and the two charge times (R136): each acts only where its time runs, and a vehicle without
task in IDLE or DOZE whose balance reaches 6 has charge due from then on. The three commands are the moments themselves and act at any tick (DEDUCED, log 8). -/
def Obligations.HallSecondHoldTimeoutAndChargeTimes : Prop :=
  (∀ s : State, ∃ u : State, exec .hallSecond s = .next u.finish ∧
    u.clk = { s.clk with hall := min 4294967295 (s.clk.hall + 1) } ∧
    u.su.rolls = s.su.rolls.map (fun r =>
      if r.state = .conditioning ∧ r.ready ≤ min 4294967295 (s.clk.hall + 1) then { r with state := .ready } else r) ∧
    ((∃ r ∈ s.su.rolls, r.state = .conditioning ∧ r.ready ≤ min 4294967295 (s.clk.hall + 1)) →
      u.nu.entries[srcStore].pending &&& Reason.bit .rollReady = Reason.bit .rollReady ∧ Msg.fpRetry ∈ u.inbox) ∧
    u.su.grades = s.su.grades ∧ u.cu = s.cu ∧ u.pju = s.pju ∧ u.pins = s.pins ∧ u.pending = s.pending ∧
    ∀ d : Fin 2, u.su.doors[d].limit = s.su.doors[d].limit ∧ u.su.doors[d].window = s.su.doors[d].window) ∧
  ∀ (s : State) (v : Vehicle),
    let r := s.fd.vehicles[v]
    let counting := r.enrolled = true ∧ r.state ≠ some .charging ∧ r.state ≠ some .sleep
    let drawing := r.state = some .charging ∧ ∃ x, s.fl.links[v].status = some x ∧ x.charging = true
    let b := if -4 < r.balance then r.balance - 1 else r.balance
    let leaves := b = -4 ∧ r.undocking = false ∧ r.halted = false
    (s.lu.waiting? v = none → exec (.holdTimeout v) s = .next s.close) ∧
    (∀ e, s.lu.waiting? v = some e → e.flag = true → exec (.holdTimeout v) s = .next s.close) ∧
    (∀ e, s.lu.waiting? v = some e → e.flag = false → exec (.holdTimeout v) s = .next ({ s with
      lu := { s.lu with waits := s.lu.waits.map (fun x => if x.veh = v then { x with flag := true } else x) }
      nu := s.nu.raise (srcVeh v) (Reason.bit .holdTimeout) } : State).close) ∧
    (¬counting → exec (.chargeIntervalExpiry v) s = .next s.finish) ∧
    (counting → exec (.chargeIntervalExpiry v) s = .next ({ s with
      fd := { s.fd with vehicles := s.fd.vehicles.set v { r with
        interval := 0, balance := if r.balance < 8 then r.balance + 1 else r.balance
        barred := r.barred || decide (r.balance = 7)
        chargeDue := r.chargeDue || decide (r.task = none ∧ (r.state = some .idle ∨ r.state = some .doze) ∧ 5 ≤ r.balance) } }
      nu := if r.balance = 7 then s.nu.raise (srcVeh v) (Reason.bit .chargeBarred) else s.nu
      inbox := s.inbox ++ (if r.task = none ∧ (r.state = some .idle ∨ r.state = some .doze) ∧ 5 ≤ r.balance then [.fdFree v]
        else []) } : State).finish) ∧
    (¬drawing → exec (.topUpExpiry v) s = .next s.finish) ∧
    (drawing → exec (.topUpExpiry v) s = .next ({ s with
      fd := { s.fd with vehicles := s.fd.vehicles.set v { r with
        topUp := 0, balance := b, barred := r.barred && decide (8 ≤ b), undocking := r.undocking || decide leaves } }
      fl := if leaves then { s.fl with links := s.fl.links.set v { s.fl.links[v] with
        count := (s.fl.links[v].count + 1) % 16, order := some .undock, echoed := false, awaitMotion := false
        wakeExpiry := none } } else s.fl
      inbox := s.inbox ++ (if b ≤ 0 then [.fdArbiter] else []) } : State).finish)

/-- The park delay (R138) and the sleep delay (R139): the test, the PARK task to the nearest free PARK node, waiting for a slot
when the queue is full, DOZE for a vehicle already at one, at the expiry or at the slot it waited for, SLEEP for an empty vehicle
that owes no charge. A vehicle that fails the sleep test is not tested again in the same DOZE (DEDUCED, log 30). CHARGE tasks come
before the PARK tasks that wait (R125); a vehicle that no longer passes the park test when a slot frees waits no longer (DEDUCED,
log 30). Charge due (R136) is set at each change of a vehicle's state and at each end of a task that leaves it without task in IDLE
or DOZE with a balance of 6 or more, and at the end of a barred vehicle's task. A vehicle that stands free, without task in IDLE,
DOZE or SLEEP (R127, R129, R137): it is given the MOVE that waits for it; else a CHARGE task when charge is due, which clears charge
due, and the arbiter runs; with a full queue the CHARGE task waits. A vehicle so given a task begins it, or is woken; a halted one
that dozes or sleeps is WAITING with it (DEDUCED, log 25). The charger of a CHARGE task (R137): the nearest that is loaded, unlocked
and no other CHARGE task's destination; with none the vehicle waits. The two expiries are the moments themselves and act at any tick (DEDUCED, log 8). One mark for all askers
keeps QUEUE_FULL from being raised again for a PARK task while the queue stays full (DEDUCED, log 29). -/
def Obligations.ParkAndSleepDelays : Prop :=
  ∀ (s : State) (v : Vehicle),
    let r := s.fd.vehicles[v]
    let may := r.enrolled = true ∧ r.task = none ∧ r.reachable = true ∧ r.halted = false ∧ r.chargeDue = false ∧
      s.fd.fleet = .running ∧ ∀ t ∈ s.fd.tasks, ¬(t.kind = .move ∧ t.vehicle = some v ∧ t.state = .queued)
    let atPark := ∃ n x, r.node = some n ∧ s.lu.nodes[n] = some x ∧ x.kind = .park
    let way := fun (m : Node) => r.node.bind (fun n => s.lu.lookup n m false)
    let free := fun (m : Node) => (∃ x, s.lu.nodes[m] = some x ∧ x.kind = .park) ∧ s.lu.nodeLocks[m] = none ∧
      ∀ t ∈ s.fd.tasks, ¬(t.kind = .park ∧ t.dest = some (.node m))
    let ordered := fun (o : Order) => ({ s.fl with links := s.fl.links.set v { s.fl.links[v] with
      count := (s.fl.links[v].count + 1) % 16, order := some o, echoed := false, awaitMotion := false
      wakeExpiry := none } } : FleetLink)
    let due := fun (x : VehState) => decide (r.task = none ∧ (x = .idle ∨ x = .doze) ∧ 6 ≤ r.balance)
    let entered := fun (x : VehState) => ({ s.fd with vehicles := s.fd.vehicles.set v { r with
      state := some x, entry := some s.clk.hall, delayFrom := s.clk.hall, parkWait := false, sleepTested := false
      cause := none, chargeDue := r.chargeDue || due x } } : FleetDispatcher)
    let restful : Prop := r.task = none ∧ (r.state = some .idle ∨ r.state = some .doze ∨ r.state = some .sleep)
    let ownMove := fun (t : TaskRec) => t ∈ s.fd.tasks ∧ t.kind = .move ∧ t.vehicle = some v ∧ t.state = .queued
    let roused := fun (x : VehRec) (fd : FleetDispatcher) => ({ s with
      fd := { fd with vehicles := s.fd.vehicles.set v { x with
        state := some .waking, entry := some s.clk.hall, delayFrom := s.clk.hall, parkWait := false, sleepTested := false
        cause := none } }
      fl := { s.fl with links := s.fl.links.set v { s.fl.links[v] with
        count := (s.fl.links[v].count + 1) % 16, order := some .wake, echoed := false, awaitMotion := false
        wakeExpiry := some (s.clk.tick + if r.power = .sleep then 30000 else 5000) } } } : State)
    (∀ x : VehState, r.state ≠ some x → (s.vehState v x).fd.vehicles[v].chargeDue = (r.chargeDue || due x)) ∧
    (∀ t res silent, s.vehTask? v = some t → t.vehicle = some v → (s.endTask t.id res silent).fd.vehicles[v].chargeDue =
      (r.chargeDue || r.barred || decide ((r.state = some .idle ∨ r.state = some .doze) ∧ 6 ≤ r.balance))) ∧
    (let charges : Prop := r.enrolled = true ∧ r.chargeDue = true ∧ r.reachable = true ∧ r.halted = false ∧ restful ∧
       s.fd.fleet = .running ∧ ∀ t, ¬ownMove t
     (¬charges → s.createCharge v = s) ∧
     (charges → 32 ≤ s.fd.tasks.length → s.createCharge v = { s with
       fd := { s.fd with fullMark := true }
       nu := if s.fd.fullMark then s.nu else s.nu.raise srcFleet (Reason.bit .queueFull) }) ∧
     (charges → s.fd.tasks.length < 32 → ∃ t : TaskRec,
       t.id = s.newId ∧ t.kind = .charge ∧ t.state = .assigned ∧ t.vehicle = some v ∧ t.source = none ∧ t.dest = none ∧
       t.deadline = none ∧ t.created = s.clk.hall ∧ t.cancel = false ∧
       let fd : FleetDispatcher := { s.fd with tasks := s.fd.tasks ++ [t], lastId := t.id }
       let x : VehRec := { r with task := some t.id, chargeDue := false }
       (r.state = some .idle → s.createCharge v = { s with
         fd := { fd with vehicles := s.fd.vehicles.set v x }, inbox := s.inbox ++ [.fdStart v] }) ∧
       (r.state ≠ some .idle → s.createCharge v = roused x fd))) ∧
    (¬restful → s.handle (.fdFree v) = s) ∧
    (restful → (∀ t, ¬ownMove t) → s.handle (.fdFree v) = { s.createCharge v with
      inbox := (s.createCharge v).inbox ++ [.fdArbiter] }) ∧
    (∀ t, restful → s.task? t.id = some t → ownMove t → (∀ y, ownMove y → y = t) → ∃ u : State, u = s.handle (.fdFree v) ∧
      u.task? t.id = some { t with state := .assigned, route := none, toStand := none } ∧
      let fd : FleetDispatcher := { s.fd with tasks := u.fd.tasks }
      let x : VehRec := { r with task := some t.id }
      (r.state = some .idle → u = { s with
        fd := { fd with vehicles := s.fd.vehicles.set v x }, inbox := s.inbox ++ [.fdStart v] }) ∧
      (r.state ≠ some .idle → r.halted = false → u = roused x fd) ∧
      (r.state ≠ some .idle → r.halted = true → u = { s with
        fd := { fd with vehicles := s.fd.vehicles.set v { x with
          state := some .waiting, entry := some s.clk.hall, delayFrom := s.clk.hall, parkWait := false, sleepTested := false
          cause := none, phase := .stalled } } })) ∧
    (r.state ≠ some .idle → exec (.parkDelayExpiry v) s = .next s.finish) ∧
    (r.state = some .idle → ¬may → exec (.parkDelayExpiry v) s = .next ({ s with
      fd := { s.fd with vehicles := s.fd.vehicles.set v { r with delayFrom := s.clk.hall } } } : State).finish) ∧
    (r.state = some .idle → may → atPark → exec (.parkDelayExpiry v) s =
      .next ({ s with fl := ordered .doze, fd := entered .doze } : State).finish) ∧
    (r.state = some .idle → may → ¬atPark → (∀ m, free m → way m = none) → exec (.parkDelayExpiry v) s = .next ({ s with
      fd := { s.fd with vehicles := s.fd.vehicles.set v { r with delayFrom := s.clk.hall, parkWait := false } } } :
        State).finish) ∧
    (r.state = some .idle → may → ¬atPark → s.fd.tasks.length < 32 → (∃ m, free m ∧ way m ≠ none) →
      ∃ (u : State) (m : Node) (a : RouteAnswer) (t : TaskRec), exec (.parkDelayExpiry v) s = .next u.finish ∧
        free m ∧ way m = some a ∧
        (∀ m' a', free m' → way m' = some a' → a.total < a'.total ∨ (a.total = a'.total ∧ m ≤ m')) ∧
        t.kind = .park ∧ t.state = .assigned ∧ t.vehicle = some v ∧ t.dest = some (.node m) ∧
        u = { s with
          fd := { s.fd with
            tasks := s.fd.tasks ++ [t], lastId := t.id
            vehicles := s.fd.vehicles.set v { r with task := some t.id, parkWait := false } }
          inbox := s.inbox ++ [.fdStart v] }) ∧
    (r.state = some .idle → may → ¬atPark → 32 ≤ s.fd.tasks.length → (∃ m, free m ∧ way m ≠ none) →
      exec (.parkDelayExpiry v) s = .next ({ s with
        fd := { s.fd with fullMark := true, vehicles := s.fd.vehicles.set v { r with parkWait := true } }
        nu := if s.fd.fullMark then s.nu else s.nu.raise srcFleet (Reason.bit .queueFull) } : State).finish) ∧
    (s.handle .fdSlot = ((List.finRange 12).foldl State.parkAgain ((List.finRange 12).foldl State.createCharge s)).post .fpSlot ∧
      (r.parkWait = false → s.parkAgain v = s) ∧
      (r.parkWait = true → r.state = some .idle → may → exec (.parkDelayExpiry v) s = .next (s.parkAgain v).finish) ∧
      (r.parkWait = true → r.state ≠ some .idle ∨ ¬may → s.parkAgain v = { s with
        fd := { s.fd with vehicles := s.fd.vehicles.set v { r with parkWait := false } } })) ∧
    (∀ t : TaskRec, s.task? t.id = some t → r.halted = false →
      let charger := fun (m : Node) => (∃ x, s.lu.nodes[m] = some x ∧ x.kind = .charger) ∧ s.lu.nodeLocks[m] = none ∧
        ∀ y ∈ s.fd.tasks, ¬(y.kind = .charge ∧ y.dest = some (.node m))
      ((∀ m, charger m → way m = none) → s.chooseCharger v t = s.waitAt v .chargerWait) ∧
      ((∃ m, charger m ∧ way m ≠ none) → ∃ (m : Node) (a : RouteAnswer), charger m ∧ way m = some a ∧
        (∀ m' a', charger m' → way m' = some a' → a.total < a'.total ∨ (a.total = a'.total ∧ m ≤ m')) ∧
        s.chooseCharger v t = (s.modTask t.id (fun y => { y with dest := some (.node m) })).driveTo v
          { t with dest := some (.node m) } (.node m))) ∧
    (r.state ≠ some .doze → exec (.sleepDelayExpiry v) s = .next s.finish) ∧
    (r.state = some .doze → r.halted = false ∧ r.load = none ∧ r.balance ≤ 0 → exec (.sleepDelayExpiry v) s =
      .next ({ s with fl := ordered .sleep, fd := entered .sleep } : State).finish) ∧
    (r.state = some .doze → ¬(r.halted = false ∧ r.load = none ∧ r.balance ≤ 0) → exec (.sleepDelayExpiry v) s =
      .next ({ s with fd := { s.fd with vehicles := s.fd.vehicles.set v { r with sleepTested := true } } } : State).finish)

/-- The Feed Planner: when a delivery is created (R87); which rolls are candidates, in which order, and which of them may be taken
(R89, R90); what a choice writes, with its dig (R91), and why it finds none (R92); what the end of a dig's task does, with the
bays it gives back (R31, R94; that the failure is recorded under the delivery's own task and roll is DEDUCED, log 41, and so is
that a RELOCATE with a vehicle runs on, log 47); the end of a delivery, its failure (R95) and a lost reservation (R96; that the
old task is cancelled before the creation test, and slack computed after it, is DEDUCED, log 40); the estimate E (R97) and a
stand's slack (R98); how the SLOW and STOP orders follow slacks and run-outs (R99, R100); what a stand's hand-off sets off, with
the hold that AUTO on clears (R76, R93, R98, R103); and the retries of R93, by deadline and then by creation, at a freed slot
followed by the stands starved by QUEUE_FULL, by deadline and then by number (that they follow is a DESIGN CHOICE, log 50). The
model's: the creation test stands at the head of the hand-offs (DESIGN CHOICE, log 1), and one mark for all askers decides whether
a delivery that the full queue refuses raises QUEUE_FULL (DEDUCED, log 29). -/
def Obligations.DeliveriesAreCreatedAndRollsChosen : Prop :=
  ∀ (s : State) (st : Stand),
    let d := s.fp.stands[st]
    let f := d.facts
    let wants : Prop := f.present = true ∧ f.auto = true ∧ f.assignment ≠ none ∧ d.hold = false ∧ d.task = none ∧
      (f.state = .empty ∨ f.state = .single ∨ f.state = .butt ∨
        (f.state = .runout ∧ f.standbyReady = false ∧ f.loading = none))
    let usable := fun (r : RollRec) => match r.loc with
      | .bay b => s.su.bays[b].suspect = false
      | .lane l x => x ≤ 2 ∧ ∃ lane, s.su.lanes[l]? = some lane ∧ lane.blocked = false ∧ lane.suspect = false
      | _ => False
    let rank := fun (r : RollRec) => match r.loc with
      | .bay b => (1, r.arrival, b.val)
      | .lane l x => (x + 2, r.arrival, l)
      | _ => (0, 0, 0)
    let full : State := { s with
      fd := { s.fd with fullMark := true }
      nu := if s.fd.fullMark then s.nu else s.nu.raise srcFleet (Reason.bit .queueFull) }
    (¬wants → s.createTest st = s) ∧
    (wants → s.fd.tasks.length < 32 → ∃ (id : Nat) (t : TaskRec),
      (s.createTest st).fp.stands[st].task = some id ∧ (s.createTest st).task? id = some t ∧ t.kind = .deliver ∧
      t.stand = some st ∧ t.dest = some (.stand st) ∧ (t.state = .waitRoll ∨ t.state = .waitDig ∨ t.state = .queued) ∧
      t.deadline = some (if d.time = none then s.clk.hall else d.deadline.getD s.clk.hall)) ∧
    (wants → 32 ≤ s.fd.tasks.length → ∃ nu, s.createTest st = { full with
      fp := { s.fp with stands := s.fp.stands.set st { d with starved := some .queueFull } }, nu := nu } ∧
      (d.starved = some .queueFull → nu = full.nu) ∧
      (d.starved ≠ some .queueFull → nu = full.nu.raise (srcStand st) (Reason.bit .starved))) ∧
    (∀ (asg : Nat × WidthClass), (∀ r, r ∈ s.candidates asg ↔ r ∈ s.su.rolls ∧ r.state = .ready ∧ r.mark = .normal ∧
        r.grade = asg.1 ∧ r.width = asg.2 ∧ usable r ∧
        ∀ t ∈ s.fd.tasks, ¬(t.kind = .relocate ∧ t.roll = some r.num)) ∧
      (s.candidates asg).Pairwise (fun x y => (rank x).1 < (rank y).1 ∨ ((rank x).1 = (rank y).1 ∧
        ((rank x).2.1 < (rank y).2.1 ∨ ((rank x).2.1 = (rank y).2.1 ∧ (rank x).2.2 ≤ (rank y).2.2))))) ∧
    (let bays := (List.finRange 8).filter (fun b => s.su.bays[b].state == .free && !s.su.bays[b].suspect)
     let moving := fun (n : Nat) => ∃ t ∈ s.fd.tasks, t.kind = .relocate ∧ t.roll = some n
     let loose := fun (n : Nat) => ∃ x, s.roll? n = some x ∧ (x.state = .conditioning ∨ x.state = .ready) ∧
       x.reservation = none ∧ ¬moving n
     let matching := fun (asg : Nat × WidthClass) (r : RollRec) => (r.state = .conditioning ∨ r.state = .ready) ∧
       r.mark = .normal ∧ r.grade = asg.1 ∧ r.width = asg.2 ∧ ¬moving r.num ∧ match r.loc with
         | .bay b => s.su.bays[b].suspect = false
         | .lane l _ => ∃ lane, s.su.lanes[l]? = some lane ∧ lane.blocked = false ∧ lane.suspect = false
         | _ => False
     let starved := fun (why : Starved) => s.choose st = { s with
       fp := { s.fp with stands := s.fp.stands.set st { d with starved := some why } }
       nu := if (match d.starved, why with
         | some (.conditioning _), .conditioning _ | some .buried, .buried | some .nothing, .nothing
         | some .queueFull, .queueFull => true
         | _, _ => false) then s.nu else s.nu.raise (srcStand st) (Reason.bit .starved) }
     (∀ r : RollRec, s.eligible r = true ↔ ∀ l x, r.loc = .lane l x → x ≠ 0 → x ≤ bays.length ∧ s.fd.tasks.length + x ≤ 32 ∧
       ∀ i n, i < x → (s.su.laneList l)[i]? = some n → loose n) ∧
     (∀ t : TaskRec, d.task.bind s.task? = some t → t.state = .waitRoll →
       (f.assignment = none → starved .nothing) ∧
       ∀ asg, f.assignment = some asg →
         ((s.candidates asg).find? s.eligible = none →
           ((∃ r ∈ s.su.rolls, matching asg r ∧ r.state = .conditioning) → ∃ r ∈ s.su.rolls, matching asg r ∧
             r.state = .conditioning ∧ (∀ x ∈ s.su.rolls, matching asg x → x.state = .conditioning → r.ready ≤ x.ready) ∧
             starved (.conditioning r.ready)) ∧
           ((∀ r ∈ s.su.rolls, matching asg r → r.state = .ready) →
             ((∃ r ∈ s.su.rolls, matching asg r) → starved .buried) ∧
             ((∀ r ∈ s.su.rolls, ¬matching asg r) → starved .nothing))) ∧
         ∀ r, (s.candidates asg).find? s.eligible = some r → s.su.TablesOk →
           (∀ place, ((∃ b, r.loc = .bay b ∧ place = .bay b) ∨ ∃ l, r.loc = .lane l 0 ∧ place = .lane l) →
             let u := s.choose st
             u.roll? r.num = some { r with state := .reserved, reservation := some st } ∧
             u.fp.stands[st] = { d with roll := some r.num, state := some .queued, dig := [], starved := none } ∧
             (∃ x, u.task? t.id = some x ∧ x = { t with roll := some r.num, source := some place, state := .queued }) ∧
             Msg.fdArbiter ∈ u.inbox) ∧
           ∀ l x : Nat, r.loc = .lane l (x + 1) → s.PlacesOk → s.fd.QueueOk →
             let u := s.choose st
             u.roll? r.num = some { r with state := .reserved, reservation := some st } ∧ Msg.fdArbiter ∈ u.inbox ∧
             u.fd.tasks.length = s.fd.tasks.length + (x + 1) ∧
             (∃ y, u.task? t.id = some y ∧ y = { t with roll := some r.num, source := some (.lane l), state := .waitDig }) ∧
             ∃ ids : List Nat, ids.length = x + 1 ∧
               u.fp.stands[st] = { d with roll := some r.num, state := some .waitDig, dig := ids, starved := none } ∧
               ∀ (i id n : Nat) (b : Fin 8), ids[i]? = some id → (s.su.laneList l)[i]? = some n → bays[i]? = some b →
                 u.su.bays[b].state = .reserved id ∧ s.task? id = none ∧ ∃ y, u.task? id = some y ∧ y.kind = .relocate ∧
                   y.roll = some n ∧ y.source = some (.lane l) ∧ y.dest = some (.bay b) ∧ y.deadline = t.deadline ∧
                   y.parent = some t.id ∧ y.state = if i = 0 then .queued else .waitDig)) ∧
    (∀ (id : Nat) (t : TaskRec) (x : EndedTask), d.task = some id → s.task? id = some t →
      let u := s.relocateEnded st x
      let left := d.dig.filter (fun k => k != x.id)
      let head : Prop := ∃ n r l, d.roll = some n ∧ s.roll? n = some r ∧ r.loc = .lane l 0
      (x.result = .done → ∀ k ks, left = k :: ks → u.fp.stands[st] = { d with dig := left } ∧ Msg.fdArbiter ∈ u.inbox ∧
        ∀ y, s.task? k = some y → u.task? k = some { y with state := .queued }) ∧
      (x.result = .done → left = [] → head → u.fp.stands[st] = { d with dig := [], state := some .queued } ∧
        Msg.fdArbiter ∈ u.inbox ∧ u.task? id = some { t with state := .queued }) ∧
      (x.result = .done → left = [] → ¬head → ∃ w : State, u = w.choose st ∧
        w = { s with su := w.su, fd := w.fd, inbox := w.inbox, fp := { s.fp with
          stands := s.fp.stands.set st { d with roll := none, dig := [], state := some .waitRoll } } } ∧
        w.task? id = some { t with roll := none, source := none, state := .waitRoll } ∧
        ∀ n r, d.roll = some n → s.roll? n = some r → r.state = .reserved → r.reservation = some st →
          w.roll? n = some { r with state := .ready, reservation := none }) ∧
      ((x.result = .done ∧ left = [] ∧ ¬head) ∨ x.result ≠ .done → ∀ n r, d.roll = some n → s.roll? n = some r →
        (r.state = .reserved → r.reservation = some st → Msg.fpRetry ∈ u.inbox)) ∧
      (x.result ≠ .done → (∀ k ∈ d.dig, k ≠ id) →
        u.fp.stands[st] = { d with
          roll := none, dig := [], state := some .waitRoll, lastFail := some ⟨.digFailed, s.clk.hall, id, d.roll⟩ } ∧
        u.task? id = some { t with roll := none, source := none, state := .waitRoll } ∧ Msg.fpChoose st ∈ u.inbox ∧
        u.nu.entries[srcStand st].pending.getLsbD 11 = true ∧
        (∀ k ∈ d.dig, ∀ y, s.task? k = some y →
          (y.vehicle = none → u.task? k = none ∧ ∀ b : Fin 8, y.bay = some b ∨ y.dest = some (.bay b) →
            s.su.bays[b].state = .reserved k → u.su.bays[b] = { s.su.bays[b] with state := .free }) ∧
          ∀ v, y.vehicle = some v → s.fd.vehicles[v].task = some k → u.task? k = some { y with parent := none } ∧
            ∀ b : Fin 8, s.su.bays[b].state = .reserved k → u.su.bays[b] = s.su.bays[b]) ∧
        ∀ n r, d.roll = some n → s.roll? n = some r → r.state = .reserved → r.reservation = some st →
          u.roll? n = some { r with state := .ready, reservation := none })) ∧
    (let gone : Delivery := { d with
       task := none, state := none, roll := none, dig := [], estimate := none, figures := none, starved := none }
     let first := fun (p : Delivery → Prop) => p d ∧ ∀ k : Stand, k < st → ¬p s.fp.stands[k]
     (∀ (id : Nat) (c : FailCause), d.task = some id →
       let u := s.failDelivery st c
       u.fp = { s.fp with stands := s.fp.stands.set st { gone with lastFail := some ⟨c, s.clk.hall, id, d.roll⟩ } } ∧
       u.nu = s.nu.raise (srcStand st) (Reason.bit .deliveryFailed) ∧
       (∀ n r, d.roll = some n → s.roll? n = some r → r.reservation = some st →
         (r.state = .reserved → u.roll? n = some { r with state := .ready, reservation := none } ∧ Msg.fpRetry ∈ u.inbox) ∧
         (r.state = .carried → u.roll? n = some { r with reservation := none })) ∧
       ∀ k ∈ d.dig, ∀ y, s.task? k = some y →
         (y.vehicle = none → u.task? k = none ∧ ∀ b : Fin 8, y.bay = some b ∨ y.dest = some (.bay b) →
           s.su.bays[b].state = .reserved k → u.su.bays[b] = { s.su.bays[b] with state := .free }) ∧
         ∀ v, y.vehicle = some v → s.fd.vehicles[v].task = some k → u.task? k = some { y with parent := none } ∧
           ∀ b : Fin 8, s.su.bays[b].state = .reserved k → u.su.bays[b] = s.su.bays[b]) ∧
     (∀ x : EndedTask, x.kind = .deliver →
       ((∀ k : Stand, s.fp.stands[k].task ≠ some x.id) → s.taskEnded x = s) ∧
       (first (fun y => y.task = some x.id) →
         (x.result = .done → s.taskEnded x = { s with
           fp := { s.fp with stands := s.fp.stands.set st gone }, inbox := .fpCreate st :: s.inbox }) ∧
         ∀ why, x.result = .failed why →
           s.taskEnded x = ({ s with inbox := .fpCreate st :: s.inbox } : State).failDelivery st (.task why))) ∧
     (∀ x : EndedTask, x.kind ≠ .deliver →
       ((∀ k : Stand, x.id ∉ s.fp.stands[k].dig) → s.taskEnded x = s) ∧
       (first (fun y => x.id ∈ y.dig) → s.taskEnded x = s.relocateEnded st x)) ∧
     s.handle (.fpCreate st) = (s.createTest st).computeSlack st ∧
     ∀ n, (d.task = none ∨ d.roll ≠ some n → s.reservationLost st n = s) ∧
       ∀ id t, d.task = some id → d.roll = some n → s.task? id = some t → id ∉ d.dig →
         let w := ({ s with inbox := .fpCreate st :: s.inbox } : State).failDelivery st .reservationLost
         w.task? id = some t ∧ s.reservationLost st n = (reqTaskCancel id w).1 ∧
         (t.vehicle = none → t.cancel = false → (s.reservationLost st n).task? id = none)) ∧
    (∀ (g : StandFacts) (on : Bool),
      let w : State := ({ s with fp := { s.fp with
        stands := s.fp.stands.set st { d with facts := g, hold := d.hold && !on } } } : State).followStop st f.state g.state
      let u := s.handle (.fpStand st g on false)
      u = ((if g.assignment = f.assignment then w else w.choose st).createTest st).computeSlack st ∧
      u.fp.stands[st].facts = g ∧ (on = true → u.fp.stands[st].hold = false) ∧ (on = false → u.fp.stands[st].hold = d.hold)) ∧
    (let due := fun (t : TaskRec) => t.kind == .deliver && t.state == .waitRoll
     s.handle .fpRetry = s.retryAll ∧ ∃ ts : List TaskRec, ts.Perm (s.fd.tasks.filter due) ∧
       ts.Pairwise (fun x y => y.deadline = none ∨ ∃ a, x.deadline = some a ∧ ∀ b, y.deadline = some b → a ≤ b) ∧
       (∀ a, (ts.filter (fun t => t.deadline == a)).Sublist s.fd.tasks) ∧
       s.retryAll = ts.foldl (fun u t => match (List.finRange 24).find? (fun k => u.fp.stands[k].task == some t.id) with
         | some k => u.choose k
         | none => u) s) ∧
    (s.handle .fpSlot = s.slotOffered ∧
      let w := s.retryAll
      let at0 := fun (k : Stand) => if w.fp.stands[k].time = none then s.clk.hall else w.fp.stands[k].deadline.getD s.clk.hall
      ∃ ks : List Stand, (∀ k, k ∈ ks ↔ w.fp.stands[k].starved = some .queueFull) ∧
        ks.Pairwise (fun x y => at0 x < at0 y ∨ (at0 x = at0 y ∧ x < y)) ∧ s.slotOffered = ks.foldl State.createTest w) ∧
    (f.present = true → ∃ (e : Option Nat) (x : Option Int),
      let t := (d.time.map (fun t : Nat => (t : Int))).getD 0
      let a := (s.pju.stand[st].force.lead : Int)
      let p := (s.ssq[st].cfg.prepTime : Int)
      let counts : Prop := d.time ≠ none ∧ s.pins[pressOf st].run = true
      s.computeSlack st = ({ s with
        fp := { s.fp with stands := s.fp.stands.set st { d with estimate := e, slack := x } } } : State).evalSlow (pressOf st) ∧
      (d.task = none → e = none) ∧
      (d.task ≠ none → e = some (match d.state, d.figures with
        | some .assigned, some g | some .picking, some g => match g.toStand with
          | some dm => g.ahead * 100 / g.speed + s.fp.pickOverhead + dm * 100 / g.speed + s.fp.placeOverhead
          | none => s.fp.estimate
        | some .carrying, some g => g.ahead * 100 / g.speed + s.fp.placeOverhead
        | some .placing, _ => s.fp.placeOverhead
        | _, _ => s.fp.estimate)) ∧
      (¬counts → x = none) ∧
      (counts → match f.state with
        | .single | .butt => (d.task ≠ none → x = some (t - a - p - (e.getD 0 : Nat))) ∧
          (d.task = none → (f.auto = true ∧ f.assignment ≠ none → x = some (t - a - p - (s.fp.estimate : Nat))) ∧
            (f.auto = false ∨ f.assignment = none → x = none))
        | .loading => x = some (t - a - p)
        | .preparing => ∀ b, f.prepStart = some b → x = some (t - a - max 0 (p - ((s.clk.hall - b : Nat) : Int)))
        | .armed => (f.auto = true → x = none) ∧ (f.auto = false → x = some (t - a))
        | .fault => x = some (t - a)
        | .empty | .accelerating | .matched | .pasting | .runout => x = none)) ∧
    ∀ p : Press,
      let o := s.fp.presses[p]
      let counted := fun (x : Int) => ∃ k : Stand, k.val / 6 = p.val ∧ s.fp.stands[k].facts.present = true ∧
        s.fp.stands[k].slack = some x
      let turned := fun (b : Bool) (r : Reason) => { s with
        fp := { s.fp with presses := s.fp.presses.set p { o with slow := b } }, nu := s.nu.raise (srcPress p) r.bit }
      (o.slow = false → (∃ x, counted x ∧ x < 0) → s.evalSlow p = turned true .slowOn) ∧
      (o.slow = false → (∀ x, counted x → 0 ≤ x) → s.evalSlow p = s) ∧
      (o.slow = true → (∀ x, counted x → (s.fp.margin : Int) ≤ x) → s.evalSlow p = turned false .slowOff) ∧
      (o.slow = true → (∃ x, counted x ∧ x < (s.fp.margin : Int)) → s.evalSlow p = s) ∧
      ∀ before after : StandState, pressOf st = p →
        let others : Prop := ∃ k : Stand, k ≠ st ∧ k.val / 6 = p.val ∧ s.fp.stands[k].facts.state = .runout
        (before ≠ .runout → after = .runout → s.followStop st before after = { s with
          fp := { s.fp with presses := s.fp.presses.set p { o with stop := true, release := false } }
          nu := if o.stop then s.nu else s.nu.raise (srcPress p) (Reason.bit .stopOn) }) ∧
        (before = .runout → after ≠ .runout → ¬others → s.followStop st before after = { s with
          fp := { s.fp with presses := s.fp.presses.set p { o with stop := false, release := false } }
          nu := if o.stop then s.nu.raise (srcPress p) (Reason.bit .stopOff) else s.nu }) ∧
        ((before = .runout ↔ after = .runout) ∨ (before = .runout ∧ others) → s.followStop st before after = s)

/-! ## Floor plan and fleet state (chapter 6) -/

/-- A grant attempt is all or nothing (R112), and a door opens by its window (R35): a granted run finds every segment and its end
node free and takes them all; any other attempt leaves locks, runs and passages as they were, and the lane too. But a lane that
was OPEN by the same vehicle before returns to IDLE when a door answers WAIT, and the Lock Unit is told (DEDUCED, log 22: R112
returns the opening answered in step 2 without a case for one that stood before). Head to head (R116): the loser of a pair, by
deadline and then number, with an escape at hand makes an attempt over the detour; without a grant its request is restored. The
detour opens a lane with the purpose of the loser's own request, and an attempt that a door answers WAIT leaves the vehicle in
that door's wait list (DESIGN CHOICE, log 37); the withdrawal before it takes the vehicle out of a door's wait list (DEDUCED, log
22). The answers of the Lock Unit at the Fleet Dispatcher (R130): a run is asked (R111) on the task's route with its deadline and
the lane's purpose, and held back while the fleet is not RUNNING; a grant orders GO and the vehicle is DRIVING; refusals end the
task. Progress (R114): a node ahead frees the segments up to it, the last one completes the run; the node last reported changes
nothing; another is OFF_RUN. The length ahead that a node report gives is kept in the route of the vehicle's task, from which a
delivery's E is formed (R97); on a detour it is the detour's own (DESIGN CHOICE, log 37). A detour over a route that does not chain
is cut so too (DESIGN CHOICE, log 54). -/
def Obligations.GrantsAreAllOrNothing : Prop :=
  (∀ (s s' : State) (e : WaitEntry), s.tryGrant e = (s', .granted) →
    (∀ x ∈ e.run.segs, s.lu.segLocks[x.seg] = none ∧ s'.lu.segLocks[x.seg] = some e.veh) ∧
    s.lu.nodeLocks[e.run.stop] = none ∧ s'.lu.nodeLocks[e.run.stop] = some e.veh ∧
    (∀ g : Seg, (∀ x ∈ e.run.segs, x.seg ≠ g) → s'.lu.segLocks[g] = s.lu.segLocks[g]) ∧
    (∀ n : Node, n ≠ e.run.stop → s'.lu.nodeLocks[n] = s.lu.nodeLocks[n]) ∧
    s'.lu.runs[e.veh] = some ⟨e.run, 0, e.run.start⟩ ∧ (∀ w, w ≠ e.veh → s'.lu.runs[w] = s.lu.runs[w]) ∧
    s'.lu.waits = s.lu.waits.filter (fun x => x.veh != e.veh) ∧ Msg.fdGranted e.veh ∈ s'.inbox ∧
    (∀ l, e.lane = some l → ∃ lane, s'.su.lanes[l]? = some lane ∧ lane.motion = .opened e.veh) ∧
    ∀ d ∈ e.doors, e.veh ∈ s'.su.doors[d].passages) ∧
  (∀ (s s' : State) (e : WaitEntry) (a : Attempt), s.tryGrant e = (s', a) → a ≠ .granted →
    (∀ d : Fin 2, e.veh ∉ s.su.doors[d].passages) → s'.lu = s.lu ∧ s'.su.rolls = s.su.rolls ∧
      (∀ d : Fin 2, s'.su.doors[d].passages = s.su.doors[d].passages) ∧
      let given := fun (l : Nat) (lane : LaneRec) => e.lane = some l ∧ s.su.lanes[l]? = some lane ∧
        lane.motion = .opened e.veh ∧ ∃ d, a = .held (.door d)
      (∀ l lane, given l lane → s'.su.lanes = s.su.lanes.set l { lane with motion := .idle } ∧
        s'.inbox = s.inbox ++ [.luExamine]) ∧
      ((∀ l lane, ¬given l lane) → s'.su.lanes = s.su.lanes ∧ s'.inbox = s.inbox)) ∧
  (∀ (s : State) (x y : WaitEntry), s.lu.waiting? x.veh = some x → s.lu.waiting? y.veh = some y → x.veh ≠ y.veh →
    let facing : Prop := s.lu.nodeLocks[x.run.stop] = some y.veh ∧ y.run.stop = x.run.start ∧
      s.lu.nodeLocks[y.run.stop] = some x.veh ∧ x.run.stop = y.run.start
    let later := fun (p q : WaitEntry) => (∃ a, q.deadline = some a ∧ ∀ b, p.deadline = some b → a < b) ∨
      (p.deadline = q.deadline ∧ q.veh < p.veh)
    let escape := fun (p : WaitEntry) (n : Node) => s.lu.nodes[p.run.start] = some ⟨.hold, some n⟩ ∧ s.lu.nodeLocks[n] = none
    (¬facing → s.testPair (x.veh, y.veh) = s) ∧
    ∀ p q : WaitEntry, (p = x ∧ q = y) ∨ (p = y ∧ q = x) → later p q → facing →
      ((∀ n, escape p n → s.lu.lookup p.run.start n true = none) → s.testPair (x.veh, y.veh) = s) ∧
      ∀ n a r, escape p n → s.lu.lookup p.run.start n true = some a → s.lu.routes[a.number] = some r →
        let way := s.lu.walk p.run.start r.segs
        let u := s.withdrawRun p.veh
        let res := u.tryGrant { p with
          run := ⟨way, p.run.start, n, 0, true⟩, lane := u.lu.laneOf ⟨way, p.run.start, n, 0, true⟩
          doors := (⟨way, p.run.start, n, 0, true⟩ : Run).doors }
        way ≠ [] → s.testPair (x.veh, y.veh) =
          if res.2 = .granted then res.1 else { res.1 with lu := { res.1.lu with waits := res.1.lu.waits ++ [p] } }) ∧
  (∀ (s : State) (v : Vehicle),
    let r := s.fd.vehicles[v]
    let now := fun (st : VehState) (p : Phase) => ({ (if r.state = some st then r else { r with
      state := some st, entry := some s.clk.hall, delayFrom := s.clk.hall, parkWait := false, sleepTested := false
      cause := none } : VehRec) with phase := p } : VehRec)
    let stands := fun (x : VehRec) => ({ s with fd := { s.fd with vehicles := s.fd.vehicles.set v x } } : State)
    (∀ g, s.lu.runs[v] = some g → r.phase = .runWait → r.halted = false → s.handle (.fdGranted v) = { s with
      fd := { s.fd with vehicles := s.fd.vehicles.set v { now .driving .driving with
        work := none, expected := none, workBegun := false, backDue := false } }
      fl := { s.fl with links := s.fl.links.set v { s.fl.links[v] with
        count := (s.fl.links[v].count + 1) % 16, order := some (.go (g.run.segs.map (fun x => x.seg)) g.run.stop)
        echoed := false, awaitMotion := false, wakeExpiry := none } } }) ∧
    (s.lu.runs[v] = none ∨ r.phase ≠ .runWait ∨ r.halted = true → s.handle (.fdGranted v) = s) ∧
    (r.phase ≠ .runWait → s.handle (.fdLaneRefused v) = s) ∧
    (∀ t, r.phase = .runWait → s.vehTask? v = some t → t.vehicle = some v → ∃ u o, u = s.handle (.fdLaneRefused v) ∧
      u.fd.vehicles[v].task = none ∧ u.fd.vehicles[v].state = some .idle ∧ u.task? t.id = none ∧
      u.fd.vehicles[v].outcome = some o ∧ o.id = t.id ∧ o.result = .failed .laneRefused ∧ t.BaysFreed s u ∧
      u.EndRaised v o.result) ∧
    ∀ (t : TaskRec) (way : TaskRoute), t.route = some way →
      let next := if t.state = .carrying ∨ t.kind = .move ∨ t.kind = .charge ∨ t.kind = .park then t.dest else t.source
      let purpose : Purpose := if t.state = .carrying ∨ t.kind = .move then .place
        else if t.kind = .check then .check else .pick
      let asked := (stands (now .waiting .runWait)).runRequest v way.number
        (match next with
          | some (.lane _) => some purpose
          | _ => none) t.deadline
      (r.halted = true → s.askRun v t = stands (now .waiting .stalled)) ∧
      (r.halted = false → s.fd.fleet ≠ .running → s.askRun v t = stands (now .waiting .heldBack)) ∧
      (r.halted = false → asked.2 = .taken → s.askRun v t = asked.1) ∧
      (r.halted = false → asked.2 = .noRun ∨ asked.2 = .noPosition → s.vehTask? v = some t → t.vehicle = some v →
        ∃ u o, u = s.askRun v t ∧ u.fd.vehicles[v].task = none ∧ u.fd.vehicles[v].state = some .idle ∧
          u.task? t.id = none ∧ u.fd.vehicles[v].outcome = some o ∧ o.id = t.id ∧ o.result = .failed .runRefused ∧
          t.BaysFreed s u ∧ u.EndRaised v o.result)) ∧
  (∀ (s : State) (v : Vehicle) (route : Route) (purpose : Option Purpose) (deadline : Option Nat) (x : RouteRec),
    let answer := s.runRequest v route purpose deadline
    s.fd.fleet = .running → s.lu.routes[route] = some x → s.lu.runs[v] = none →
      ((∀ n : Node, s.lu.nodeLocks[n] ≠ some v) → answer = (s, .noPosition)) ∧
      ∀ n : Node, s.lu.nodeLocks[n] = some v → (∀ m : Node, m < n → s.lu.nodeLocks[m] ≠ some v) →
        (n = x.dest ∨ s.lu.cutRun x n = none → answer = (s, .noRun)) ∧
        ∀ run, n ≠ x.dest → s.lu.cutRun x n = some run →
          let entry : WaitEntry :=
            { veh := v, run := run, lane := s.lu.laneOf run, purpose := purpose.getD .place, doors := run.doors
              deadline := deadline, since := s.clk.tick, flag := false, held := none }
          answer = (({ s with lu := { s.lu with
            waits := s.lu.waits.filter (fun e => e.veh != v) ++ [entry] } } : State).examine, .taken)) ∧
  (∀ (s : State) (v : Vehicle) (n : Node),
    (s.lu.runs[v] = none → s.nodeReport v n = (s, if s.lu.nodeLocks[n] = some v then .ahead 0 else .offRun)) ∧
    ∀ g, s.lu.runs[v] = some g →
      let left := fun (k : Nat) => ((g.run.segs.drop k).map (fun x => x.length)).sum + g.run.after
      ((∀ x ∈ g.run.segs.drop g.passed, x.far ≠ n) → s.nodeReport v n = (s, if n = g.last then .ahead (left g.passed) else .offRun)) ∧
      ∀ j x, g.passed ≤ j → g.run.segs[j]? = some x → x.far = n →
        (∀ (i : Nat) (y : RunSeg), g.passed ≤ i → i < j → g.run.segs[i]? = some y → y.far ≠ n) →
        let u := (s.nodeReport v n).1
        (s.nodeReport v n).2 = (if j + 1 < g.run.segs.length then .ahead (left (j + 1)) else .runDone (left (j + 1)) g.run.detour) ∧
        u.lu.runs = s.lu.runs.set v (if j + 1 < g.run.segs.length then some { g with passed := j + 1, last := n } else none) ∧
        (∀ t, j + 1 < g.run.segs.length → s.fd.vehicles[v].phase ≠ .homing → s.fd.vehicles[v].state ≠ some .lost →
          s.vehTask? v = some t → (s.event v (.passed (some n))).task? t.id =
            some { t with route := t.route.map (fun y => { y with ahead := left (j + 1) }) }) ∧
        (∀ k : Seg, ((∃ (i : Nat) (y : RunSeg), g.passed ≤ i ∧ i ≤ j ∧ g.run.segs[i]? = some y ∧ y.seg = k) →
            u.lu.segLocks[k] = none) ∧
          ((∀ (i : Nat) (y : RunSeg), g.passed ≤ i → i ≤ j → g.run.segs[i]? = some y → y.seg ≠ k) →
            u.lu.segLocks[k] = s.lu.segLocks[k])) ∧
        (∀ m : Node, u.lu.nodeLocks[m] = if g.passed = 0 ∧ m = g.run.start ∧ s.lu.nodeLocks[m] = some v then none
          else s.lu.nodeLocks[m]) ∧
        (∀ d : Fin 2, v ∈ u.su.doors[d].passages → v ∈ s.su.doors[d].passages) ∧ Msg.luExamine ∈ u.inbox) ∧
  ∀ (s : State) (d : Fin 2) (v : Vehicle),
    let t := s.clk.hall
    let door := s.su.doors[d]
    let live := door.openings.filter (fun x => decide (t < x + door.window))
    let room : Prop := live.length < door.limit ∧
      (live = door.openings → ∀ x, door.dropped = some x → x + door.window ≤ t) ∧
      (door.waits = [] ∨ door.waits.head? = some v)
    ((s.askDoor d v).2 = true ↔ room) ∧
    (room → ((s.askDoor d v).1.su.doors[d].openings.filter (fun x => decide (t < x + door.window))).length ≤ door.limit ∧
      v ∈ (s.askDoor d v).1.su.doors[d].passages ∧ v ∉ (s.askDoor d v).1.su.doors[d].waits) ∧
    (¬room → (s.askDoor d v).1.su.doors[d].openings = live ∧
      (s.askDoor d v).1.su.doors[d].waits = (if v ∈ door.waits then door.waits else door.waits ++ [v]))

/-- The four requests that load the floor plan (R107): their refusals in order, and the one table entry each writes. FLOOR CLEAR is
refused with any lock held, an OPEN lane among them. -/
def Obligations.FloorPlanLoadsWithTheFleetStopped : Prop :=
  ∀ s : State,
    let answer := fun (e : Result) => (Host.Outcome.next (s.reply ⟨e, []⟩) : Out)
    let written := fun (lu : LockUnit) (e : Result) =>
      (Host.Outcome.next { s with lu := lu, clp := { s.clp with lastReply := some ⟨e, []⟩ } } : Out)
    (∀ (n : Nat) (kind : Option NodeKind) (escape : Option Nat),
      let bad : Prop := 127 < n ∨ (escape ≠ none ∧ kind ≠ some .hold) ∨ (∃ e, escape = some e ∧ 127 < e) ∨
        match kind with
        | none => True
        | some (.laneHead l) => 15 < l
        | some (.bay b) => 7 < b
        | some (.stand st) => 23 < st
        | some _ => False
      (bad → exec (.floorNode n kind escape) s = answer .badFrame) ∧
      (¬bad → ∀ (m : Node) (k : NodeKind), m.val = n → kind = some k →
        let held : Prop := s.fd.fleet ≠ .stopped ∨ s.lu.nodeLocks[m] ≠ none ∨
          ∃ (g : Seg) (x : SegRec), s.lu.segs[g] = some x ∧ (x.a = m ∨ x.b = m) ∧ s.lu.segLocks[g] ≠ none
        (held → exec (.floorNode n kind escape) s = answer .locked) ∧
        (¬held → escape = none → exec (.floorNode n kind escape) s =
          written { s.lu with nodes := s.lu.nodes.set m (some ⟨k, none⟩) } .ok) ∧
        ∀ e : Node, ¬held → escape = some e.val → exec (.floorNode n kind escape) s =
          written { s.lu with nodes := s.lu.nodes.set m (some ⟨k, some e⟩) } .ok)) ∧
    (∀ (n a b len : Nat) (attr : Option SegAttr) (dir : Option Direction),
      let bad : Prop := 191 < n ∨ 127 < a ∨ 127 < b ∨ a = b ∨ dir = none ∨
        match attr with
        | none => True
        | some (.door d) => 1 < d
        | some (.lane l) => 15 < l
        | some .none => False
      (bad → exec (.floorSegment n a b len attr dir) s = answer .badFrame) ∧
      (¬bad → len ≤ 65535 → ∀ (g : Seg) (x y : Node) (t : SegAttr) (d : Direction), g.val = n → x.val = a → y.val = b →
        attr = some t → dir = some d →
        (s.fd.fleet ≠ .stopped ∨ s.lu.segLocks[g] ≠ none → exec (.floorSegment n a b len attr dir) s = answer .locked) ∧
        (s.fd.fleet = .stopped → s.lu.segLocks[g] = none → exec (.floorSegment n a b len attr dir) s =
          written { s.lu with segs := s.lu.segs.set g (some ⟨x, y, max 1 len, t, d⟩) }
            (if len = 0 then .okClamped else .ok)))) ∧
    (∀ (n o d : Nat) (gs : List Nat),
      let bad : Prop := 255 < n ∨ 127 < o ∨ 127 < d ∨ gs = [] ∨ 16 < gs.length ∨ ∃ g ∈ gs, 191 < g
      (bad → exec (.floorRoute n o d gs) s = answer .badFrame) ∧
      (¬bad → ∀ (k : Route) (x y : Node) (segs : List Seg), k.val = n → x.val = o → y.val = d →
        segs.map (fun g => g.val) = gs →
        (s.fd.fleet ≠ .stopped → exec (.floorRoute n o d gs) s = answer .locked) ∧
        (s.fd.fleet = .stopped → exec (.floorRoute n o d gs) s =
          written { s.lu with routes := s.lu.routes.set k (some ⟨x, y, segs, none⟩) } .ok))) ∧
    let held : Prop := s.fd.fleet ≠ .stopped ∨ (∃ g : Seg, s.lu.segLocks[g] ≠ none) ∨
      (∃ n : Node, s.lu.nodeLocks[n] ≠ none) ∨ ∃ r ∈ s.su.lanes, ∃ v, r.motion = .opened v
    (held → exec .floorClear s = answer .locked) ∧
    (¬held → exec .floorClear s = written { s.lu with
      nodes := Vector.replicate 128 none, segs := Vector.replicate 192 none, routes := Vector.replicate 256 none } .ok)

/-- The plan check of FLEET START (R109): each of its ten checks as the table has it, node, segment and route; a plan passes when no
loaded item fails one; otherwise the fault is the first failing item, nodes before segments before routes, each by ascending
number, with the first check in table order that the item fails. FLEET START answers it (O49). -/
def Obligations.PlanCheckAsksWhatItsTableSays : Prop :=
  ∀ s : State,
    let kind := fun (n : Node) (k : NodeKind) => ∃ r, s.lu.nodes[n] = some r ∧ r.kind = k
    let holding := fun (n : Node) => ∃ r, s.lu.nodes[n] = some r ∧ r.kind ≠ .plain
    let place := fun (n : Node) (k : NodeKind) => match k with
      | .laneHead l => l < s.su.lanes.length ∧ ∀ m, m < n → ¬kind m k
      | .stand x => (∃ st : Stand, st.val = x ∧ s.ssq[st].present = true) ∧ ∀ m, m < n → ¬kind m k
      | .bay _ => ∀ m, m < n → ¬kind m k
      | _ => True
    let joins := fun (x : SegRec) (m n : Node) => (x.a = m ∧ x.b = n) ∨ (x.b = m ∧ x.a = n)
    let driven := fun (r : RouteRec) (path : List Node) (p : SegRec → Node → Node → Prop) =>
      ∀ (i : Nat) (g : Seg) (m n : Node), r.segs[i]? = some g → path[i]? = some m → path[i + 1]? = some n →
        ∃ x, s.lu.segs[g] = some x ∧ p x m n
    let chain := fun (r : RouteRec) (path : List Node) => r.segs ≠ [] ∧ path.length = r.segs.length + 1 ∧
      path.head? = some r.origin ∧ path.getLast? = some r.dest ∧ driven r path joins
    let node := fun (i : Nat) (p : Node → NodeRec → Prop) => ∃ n r, n.val = i ∧ s.lu.nodes[n] = some r ∧ p n r
    let segment := fun (i : Nat) (p : SegRec → Prop) => ∃ (g : Seg) (x : SegRec), g.val = i ∧ s.lu.segs[g] = some x ∧ p x
    let route := fun (i : Nat) (p : RouteRec → Prop) => ∃ (k : Route) (r : RouteRec), k.val = i ∧ s.lu.routes[k] = some r ∧ p r
    let fails := fun (table i : Nat) (c : PlanCheck) => match c with
      | .nodePlace => table = 0 ∧ node i (fun n r => ¬place n r.kind)
      | .nodeEscape => table = 0 ∧ node i (fun n r => ∃ e, r.escape = some e ∧ ¬(holding e ∧ e ≠ n))
      | .nodeJunction => table = 0 ∧ node i (fun n r => r.kind = .plain ∧
          2 < ((List.finRange 192).filter (fun g => s.lu.segs[g].any (fun x => x.a == n || x.b == n))).length)
      | .segNode => table = 1 ∧ segment i (fun x => s.lu.nodes[x.a] = none ∨ s.lu.nodes[x.b] = none)
      | .segLane => table = 1 ∧ segment i (fun x => ∃ l, x.attr = .lane l ∧
          ¬kind x.a (.laneHead l) ∧ ¬kind x.b (.laneHead l))
      | .routeEnd => table = 2 ∧ route i (fun r => ¬holding r.origin ∨ ¬holding r.dest)
      | .routeSegment => table = 2 ∧ route i (fun r => ∃ g ∈ r.segs, s.lu.segs[g] = none)
      | .routeChain => table = 2 ∧ route i (fun r => ¬∃ path, chain r path)
      | .routeDirection => table = 2 ∧ route i (fun r => ∃ path, chain r path ∧
          ¬driven r path (fun x m n => (x.a = m ∧ x.b = n) ∨ x.direction = .both))
      | .routeRepeat => table = 2 ∧ route i (fun r => ∃ path, chain r path ∧ ¬path.Nodup)
    (s.planFault = none ↔ ∀ t i c, ¬fails t i c) ∧
    ∀ t i c, s.planFault = some (t, i, c) ↔ fails t i c ∧ ∀ t' i' c', fails t' i' c' →
      t < t' ∨ (t = t' ∧ (i < i' ∨ (i = i' ∧ c.code ≤ c'.code)))

/-- FLEET START, FLEET STOP and FLEET CONFIG (R109, R110, R145). A start computes every route's total and lets runs be asked; a
failing plan is answered with its table, item number and check code (the first failing one, O48); a stop withdraws every waiting
run and holds it back, keeps locks, runs and tasks, and stops the fleet at once when nothing moves. A HALTING fleet stops at the
first moment at which nothing moves (R110): the condition is examined once at the end of each command and tick, after its events
and hand-offs (DESIGN CHOICE, log 52). -/
def Obligations.FleetStartsStopsAndIsConfigured : Prop :=
  ∀ s : State,
    let ok := (some ⟨.ok, []⟩ : Option Reply)
    let same : Out := .next (s.reply ⟨.ok, []⟩).finish
    let still : Prop := ∀ v : Vehicle, s.fd.vehicles[v].enrolled = true → s.fd.vehicles[v].state ≠ some .lost →
      s.fd.vehicles[v].state ≠ some .fault → s.fd.vehicles[v].halted = false →
      s.lu.runs[v] = none ∧ ∀ r ∈ s.su.lanes, r.motion ≠ .opened v
    (s.fd.fleet = .halting → still → s.fleetStopCheck = { s with
      fd := { s.fd with fleet := .stopped }, nu := s.nu.raise srcFleet (Reason.bit .fleetStopped) }) ∧
    (s.fd.fleet ≠ .halting ∨ ¬still → s.fleetStopCheck = s) ∧
    s.finish = (State.settle Config.handoffFuel s).fleetStopCheck.pump ∧
    (s.fd.fleet = .running → exec .fleetStart s = same) ∧
    (s.fd.fleet = .halting → exec .fleetStart s = .next ({ s with
      fd := { s.fd with fleet := .running }, inbox := s.inbox ++ [.fdRuns], clp := { s.clp with lastReply := ok } } :
        State).finish) ∧
    (∀ t n c, s.fd.fleet = .stopped → s.planFault = some (t, n, c) → exec .fleetStart s = .next ({ s with
      nu := s.nu.raise srcFleet (Reason.bit .planInvalid)
      clp := { s.clp with lastReply := some ⟨.badState, bytesLE 1 t ++ bytesLE 1 n ++ bytesLE 1 c.code⟩ } } :
        State).finish) ∧
    (s.fd.fleet = .stopped → s.planFault = none → exec .fleetStart s = .next ({ s with
      lu := { s.lu with routes := s.lu.routes.map (fun o => o.map (fun r => { r with
        total := some ((r.segs.map (fun g => (s.lu.segs[g].map (fun x => x.length)).getD 0)).sum) })) }
      fd := { s.fd with fleet := .running }, inbox := s.inbox ++ [.fdRuns], clp := { s.clp with lastReply := ok } } :
        State).finish) ∧
    (s.fd.fleet ≠ .running → exec .fleetStop s = same) ∧
    (s.fd.fleet = .running → ∃ u : State, exec .fleetStop s = .next u.finish ∧
      u = { s with su := { s.su with doors := u.su.doors }, lu := { s.lu with waits := [] }, nu := u.nu, inbox := u.inbox
                   fd := { s.fd with vehicles := u.fd.vehicles, fleet := u.fd.fleet }
                   clp := { s.clp with lastReply := ok } } ∧
      (∀ d : Fin 2, u.su.doors[d].passages = s.su.doors[d].passages ∧ u.su.doors[d].openings = s.su.doors[d].openings ∧
        u.su.doors[d].waits = s.su.doors[d].waits.filter (fun v => !s.lu.waits.any (fun e => e.veh == v))) ∧
      (∀ v : Vehicle, u.fd.vehicles[v] = if s.fd.vehicles[v].phase = .runWait then
        { s.fd.vehicles[v] with phase := .heldBack } else s.fd.vehicles[v]) ∧
      (still → u.fd.fleet = .stopped ∧ u.nu = s.nu.raise srcFleet (Reason.bit .fleetStopped)) ∧
      (¬still → u.fd.fleet = .halting ∧ u.nu = s.nu)) ∧
    ∀ c : FleetCfgArg,
      let h := (c.holdTimeout.map (fun x => max 10 (min 600 x))).getD s.fd.holdTimeout
      let p := (c.parkDelay.map (fun x => max 10 (min 3600 x))).getD s.fd.parkDelay
      let d := (c.sleepDelay.map (fun x => max 60 (min 14400 x))).getD s.fd.sleepDelay
      let i := (c.chargeInterval.map (fun x => max 5 (min 60 x))).getD s.fd.chargeInterval
      let t := (c.topUpPeriod.map (fun x => max 1 (min 10 x))).getD s.fd.topUpPeriod
      let inRange := c.holdTimeout.all (fun x => decide (10 ≤ x ∧ x ≤ 600)) &&
        c.parkDelay.all (fun x => decide (10 ≤ x ∧ x ≤ 3600)) && c.sleepDelay.all (fun x => decide (60 ≤ x ∧ x ≤ 14400)) &&
        c.chargeInterval.all (fun x => decide (5 ≤ x ∧ x ≤ 60)) && c.topUpPeriod.all (fun x => decide (1 ≤ x ∧ x ≤ 10))
      exec (.fleetConfig c) s = .next { s with
        fd := { s.fd with holdTimeout := h, parkDelay := p, sleepDelay := d, chargeInterval := i, topUpPeriod := t }
        clp := { s.clp with lastReply := some ⟨if inRange then .ok else .okClamped,
          bytesLE 2 h ++ bytesLE 2 p ++ bytesLE 2 d ++ bytesLE 2 i ++ bytesLE 2 t⟩ } }

/-! ## Tasks and vehicles (chapter 7) -/

/-- TASK UNSTACK, TASK CHECK and TASK MOVE (R125, R127): their refusals in order, and the one task each creates under the next free
id. That a MOVE node above 127 is BAD_FRAME and that TABLE_FULL comes before the CONFLICT of an unavailable bay are DEDUCED (log
28); that the other refusals come before TABLE_FULL, in the order of R127's row, and then raise no QUEUE_FULL is a DESIGN CHOICE
(log 28: R125 and R127 give no order). DEDUCED is that one mark for all askers keeps QUEUE_FULL from being raised again while the
queue stays full (log 29). The arbiter (R129): it takes the QUEUED tasks of the kinds it matches by deadline, then by creation,
matches them all, then lets each matched one begin. The vehicle it takes for a place is the available one preferred by state, then
route length, then number, and one in reserve only when no available one has a route; the match gives task and vehicle to each
other. A matched vehicle begins when IDLE (it drives to the task's first place, O56, or chooses a charger, O44), is woken from DOZE
or SLEEP (R139, R156) and ordered UNDOCK in CHARGING (R137). An UNSTACK makes the tests of its first round at the match (R135): one
that ends there leaves the vehicle woken or ordered UNDOCK all the same (DEDUCED, log 42); of one that goes on the destination is
the bay of the round (DESIGN CHOICE, log 55). -/
def Obligations.TaskRequestsCreateTasks : Prop :=
  ∀ s : State, s.fd.QueueOk →
    let refused := fun (c : Instr) (e : Result) => exec c s = .next (s.reply ⟨e, []⟩).finish
    let full : State := { s with
      fd := { s.fd with fullMark := true }
      nu := if s.fd.fullMark then s.nu else s.nu.raise srcFleet (Reason.bit .queueFull) }
    let free := fun (id : Nat) => ∀ t ∈ s.fd.tasks, t.id ≠ id
    let after := fun (k : Nat) => (s.fd.lastId + k) % 65535 + 1
    let fresh := fun (id : Nat) (k : TaskKind) => ({
      id := id, kind := k, state := .queued, stand := none, roll := none, source := none, dest := none, deadline := none
      created := s.clk.hall, vehicle := none, parent := none, count := 0, moved := 0, bay := none, reads := 0, route := none
      cancel := false, fail := none, toStand := none } : TaskRec)
    let created := fun (c : Instr) (t : Nat → TaskRec) (e : Result) (su : Nat → StoreUnit) (m : Msg) => ∃ k : Nat,
      free (after k) ∧ (∀ j, j < k → ¬free (after j)) ∧
      exec c s = .next ({ s with
        fd := { s.fd with tasks := s.fd.tasks ++ [t (after k)], lastId := after k }, su := su (after k)
        inbox := s.inbox ++ [m], clp := { s.clp with lastReply := some ⟨e, bytesLE 2 (after k)⟩ } } : State).finish
    let keep := fun (_ : Nat) => s.su
    (∀ (l n : Nat) (dl : Option Nat), (∀ x, dl = some x → x ≤ 4294967295) →
      (s.su.lanes.length ≤ l → refused (.taskUnstack l n dl) .badFrame ∧ refused (.taskCheck l dl) .badFrame) ∧
      (l < s.su.lanes.length → s.fd.tasks.length = 32 →
        exec (.taskUnstack l n dl) s = .next (full.reply ⟨.tableFull, []⟩).finish ∧
        exec (.taskCheck l dl) s = .next (full.reply ⟨.tableFull, []⟩).finish) ∧
      (l < s.su.lanes.length → s.fd.tasks.length < 32 →
        created (.taskUnstack l n dl) (fun id => { fresh id .unstack with
          source := some (.lane l), count := max 1 (min 24 n), deadline := dl }) (if 1 ≤ n ∧ n ≤ 24 then .ok else .okClamped)
          keep .fdArbiter ∧
        created (.taskCheck l dl) (fun id => { fresh id .check with source := some (.lane l), deadline := dl }) .ok keep
          .fdArbiter)) ∧
    ∀ (n k : Nat) (drop : Option (Option PlaceArg)) (dl : Option Nat), (∀ x, dl = some x → x ≤ 4294967295) →
      let c : Instr := .taskMove n k drop dl
      let bad : Prop := 11 < n ∨ 127 < k ∨ match drop with
        | none => False
        | some none => True
        | some (some (.lane l)) => 15 < l
        | some (some (.bay b)) => 7 < b
      (bad → refused c .badFrame) ∧
      (¬bad → ∀ (v : Vehicle) (m : Node) (p : Place), v.val = n → m.val = k →
        (match drop with
          | some (some (.lane l)) => p = .lane l
          | some (some (.bay b)) => ∃ b' : Fin 8, b'.val = b ∧ p = .bay b'
          | _ => p = .node m) →
        let absent : Prop := s.fd.vehicles[v].enrolled = false ∨ s.lu.nodes[m] = none
        let misfit : Prop := (∃ x, s.lu.nodes[m] = some x ∧ x.kind = .plain) ∨ s.lu.placeNode p ≠ some m
        let engaged : Prop := s.fd.vehicles[v].task ≠ none ∨
          ∃ t ∈ s.fd.tasks, t.kind = .move ∧ t.vehicle = some v ∧ t.state = .queued
        (absent → refused c .notFound) ∧
        (¬absent → misfit → refused c .badState) ∧
        (¬absent → ¬misfit → engaged → refused c .conflict) ∧
        (¬absent → ¬misfit → ¬engaged → s.fd.tasks.length = 32 → exec c s = .next (full.reply ⟨.tableFull, []⟩).finish) ∧
        (¬absent → ¬misfit → ¬engaged → s.fd.tasks.length < 32 →
          ((∀ b, p ≠ .bay b) → created c (fun id => { fresh id .move with
            dest := some p, vehicle := some v, deadline := dl }) .ok keep (.fdFree v)) ∧
          ∀ b, p = .bay b →
            (s.su.bays[b].state ≠ .free ∨ s.su.bays[b].suspect = true → refused c .conflict) ∧
            (s.su.bays[b].state = .free → s.su.bays[b].suspect = false → created c (fun id => { fresh id .move with
              dest := some p, vehicle := some v, bay := some b, deadline := dl }) .ok
              (fun id => { s.su with bays := s.su.bays.set b { s.su.bays[b] with state := .reserved id } }) (.fdFree v)))) ∧
    let usable := fun (v : Vehicle) =>
      let r := s.fd.vehicles[v]
      r.enrolled = true ∧ r.reachable = true ∧ r.halted = false ∧ r.task = none ∧ r.load = none ∧ r.chargeDue = false ∧
        r.barred = false ∧ r.balance < 8 ∧ ∀ t ∈ s.fd.tasks, ¬(t.kind = .move ∧ t.vehicle = some v ∧ t.state = .queued)
    let pref := fun (v : Vehicle) (k : Nat) => usable v ∧
      ((s.fd.vehicles[v].state = some .idle ∧ k = 0) ∨ (s.fd.vehicles[v].state = some .doze ∧ k = 1) ∨
        (s.fd.vehicles[v].state = some .sleep ∧ k = 2))
    let spare := fun (v : Vehicle) (k : Nat) => usable v ∧ s.fd.vehicles[v].state = some .charging ∧
      s.fd.vehicles[v].balance ≤ 0 ∧ k = 0
    let far := fun (v : Vehicle) (m : Node) (n : Nat) => ∃ o, s.fd.vehicles[v].node = some o ∧
      ((o = m ∧ n = 0) ∨ (o ≠ m ∧ ∃ a, s.lu.lookup o m false = some a ∧ n = a.total))
    let best := fun (group : Vehicle → Nat → Prop) (m : Node) (c : Candidate) =>
      group c.veh c.pref ∧ far c.veh m c.route.ahead ∧ ∀ w k n, group w k → far w m n →
        c.pref < k ∨ (c.pref = k ∧ (c.route.ahead < n ∨ (c.route.ahead = n ∧ c.veh ≤ w)))
    (∀ (m : Node) (c : Candidate), s.pickVehicle m = some c →
      best pref m c ∨ ((∀ w k n, pref w k → ¬far w m n) ∧ best spare m c)) ∧
    (∀ m : Node, s.pickVehicle m = none → ∀ w k n, (pref w k ∨ spare w k) → ¬far w m n) ∧
    (s.fd.fleet ≠ .running → s.arbiter = s) ∧
    (s.fd.fleet = .running → ∃ ts : List TaskRec,
      ts.Perm (s.fd.tasks.filter (fun t => decide (t.state = .queued ∧ t.kind ∈ [.deliver, .relocate, .unstack, .check]))) ∧
      ts.Pairwise (fun x y => y.deadline = none ∨ ∃ a, x.deadline = some a ∧ ∀ b, y.deadline = some b → a ≤ b) ∧
      (∀ a, (ts.filter (fun t => t.deadline == a)).Sublist s.fd.tasks) ∧
      s.arbiter = ts.foldl (fun u t => u.beginMatch t.id) (ts.foldl (fun u t => u.matchTask t.id) s)) ∧
    (∀ (t : TaskRec) (p : Place) (m : Node), s.task? t.id = some t → t.source = some p → s.lu.placeNode p = some m →
      (s.pickVehicle m = none → s.matchTask t.id = s) ∧
      ∀ c, s.pickVehicle m = some c → ∃ x, (s.matchTask t.id).task? t.id = some x ∧
        x = { t with vehicle := some c.veh, state := .assigned, route := some c.route, toStand := x.toStand } ∧
        (s.matchTask t.id).fd.vehicles = s.fd.vehicles.set c.veh { s.fd.vehicles[c.veh] with task := some t.id }) ∧
    (∀ (t : TaskRec) (v : Vehicle), s.vehTask? v = some t →
      let next := if t.state = .carrying ∨ t.kind = .move ∨ t.kind = .charge ∨ t.kind = .park then t.dest else t.source
      (∀ p, next = some p → s.handle (.fdStart v) = (s.driveTo v t p).reportTask t.id) ∧
      (next = none → t.kind = .charge → s.handle (.fdStart v) = (s.chooseCharger v t).reportTask t.id)) ∧
    ∀ (t : TaskRec) (v : Vehicle), s.vehTask? v = some t → t.vehicle = some v → s.fd.vehicles[v].halted = false →
      let r := s.fd.vehicles[v]
      let u := s.beginMatch t.id
      let link := fun (o : Order) => u.fl = { s.fl with links := s.fl.links.set v { s.fl.links[v] with
        count := (s.fl.links[v].count + 1) % 16, order := some o, echoed := false, awaitMotion := false
        wakeExpiry := if o = .wake then some (s.clk.tick + if r.power = .sleep then 30000 else 5000) else none } }
      let rouses : Prop :=
        (r.state = some .doze ∨ r.state = some .sleep → link .wake ∧ u.fd.vehicles[v].state = some .waking) ∧
        (r.state = some .charging → u.fd.vehicles[v].state = some .charging ∧ u.fd.vehicles[v].undocking = true ∧
          (r.undocking = false → link .undock) ∧ (r.undocking = true → u.fl = s.fl)) ∧
        (r.state = some .idle → u.fd.vehicles[v].state = some .idle ∧ u.fl = s.fl)
      (t.kind ≠ .unstack → rouses ∧ u.fd.tasks = s.fd.tasks ∧ u.su = s.su ∧ u.fd.vehicles[v].task = some t.id ∧
        u.inbox = s.inbox ++ (if r.state = some .idle then [.fdStart v] else [])) ∧
      ∀ l, t.kind = .unstack → t.source = some (.lane l) →
        let head := (s.su.laneList l).head?
        let done : Prop := t.count = 0 ∨ t.cancel = true ∨ ∀ n, head = some n → s.su.rollState? n = some .reserved ∨
          ∃ y ∈ s.fd.tasks, y.kind = .relocate ∧ y.roll = some n
        let free := fun (b : Fin 8) => s.su.bays[b].state = .free ∧ s.su.bays[b].suspect = false
        let ends := fun (res : TaskResult) => u.task? t.id = none ∧ u.fd.vehicles[v].task = none ∧ u.EndRaised v res ∧
          (∃ o, u.fd.vehicles[v].outcome = some o ∧ o.id = t.id ∧ o.result = res) ∧ Msg.fdFree v ∈ u.inbox
        rouses ∧ (done → ends .done) ∧ (¬done → (∀ b, ¬free b) → ends (.failed .noBay)) ∧
        ∀ b, ¬done → free b → (∀ b', b' < b → ¬free b') → u.fd.vehicles[v].task = some t.id ∧
          u.task? t.id = some { t with bay := some b, dest := some (.bay b), state := .assigned } ∧
          u.su = { s.su with bays := s.su.bays.set b { s.su.bays[b] with state := .reserved t.id } } ∧
          u.inbox = s.inbox ++ (if r.state = some .idle then [.fdStart v] else [])

/-- TASK CANCEL (R128): where the task stands decides whether it ends at once or a cancel is pending. A task that ends gives back
the bays still RESERVED for it (R31, R126), and its end is raised on its vehicle's source. DEDUCED where R128 leaves it to inference
(log 24): OK DEFERRED for a cancel already pending, WAKING and CHARGING keeping their state, a halted DRIVING vehicle staying
DRIVING with no task (R141 beside R128), an UNSTACK ended so being DONE, and a read under way going on to its TAG. The reply's
codes ENDED 0 and DEFERRED 1 are DEDUCED (log 19). -/
def Obligations.TaskCancelActsByWhereTheTaskStands : Prop :=
  ∀ (s : State) (id : Nat), s.fd.QueueOk →
    let cmd : Instr := .taskCancel id
    let told := fun (u : State) (n : Nat) => u.clp = { s.clp with lastReply := some ⟨.ok, bytesLE 1 n⟩ }
    let gone := fun (u : State) => u.fd.tasks = s.fd.tasks.filter (fun x => x.id != id)
    let freed := fun (u : State) (t : TaskRec) => t.BaysFreed s u ∧
      ∀ b : Fin 8, s.su.bays[b].state ≠ .reserved id → u.su.bays[b] = s.su.bays[b]
    let marked : Out := .next ({ s with
      fd := { s.fd with tasks := s.fd.tasks.map (fun x => if x.id = id then { x with cancel := true } else x) }
      clp := { s.clp with lastReply := some ⟨.ok, bytesLE 1 1⟩ } } : State).finish
    (s.task? id = none → exec cmd s = .next (s.reply ⟨.notFound, []⟩).finish) ∧
    ∀ t, s.task? id = some t →
      (t.cancel = true → exec cmd s = .next (s.reply ⟨.ok, bytesLE 1 1⟩).finish) ∧
      (t.cancel = false → (∀ v, t.vehicle = some v → s.fd.vehicles[v].task ≠ some id) → ∃ u : State,
        exec cmd s = .next u.finish ∧ told u 0 ∧ gone u ∧ freed u t ∧ u.fd.vehicles = s.fd.vehicles ∧
        (t.kind = .deliver → Msg.fpEnd ⟨id, t.kind, t.roll, .failed .cancelled⟩ ∈ u.inbox)) ∧
      ∀ v, t.cancel = false → t.vehicle = some v → s.fd.vehicles[v].task = some id →
        let r := s.fd.vehicles[v]
        let ends := fun (x : Option VehState) => ∃ u : State, exec cmd s = .next u.finish ∧ told u 0 ∧ gone u ∧
          freed u t ∧ u.fd.vehicles[v].task = none ∧ u.fd.vehicles[v].load = r.load ∧ u.fd.vehicles[v].state = x ∧
          (∃ o, u.fd.vehicles[v].outcome = some o ∧ o.id = id ∧
            o.result = (if t.kind = .unstack then .done else .failed .cancelled) ∧ u.EndRaised v o.result) ∧
          (t.kind = .deliver → Msg.fpEnd ⟨id, t.kind, t.roll, .failed .cancelled⟩ ∈ u.inbox) ∧
          (r.state = some .waiting → r.halted = false → ∀ e ∈ u.lu.waits, e.veh ≠ v) ∧
          ∀ w, w ≠ v → u.fd.vehicles[w] = s.fd.vehicles[w]
        (r.halted = true → ends (if r.state = some .waiting ∨ r.state = some .picking ∨ r.state = some .placing then some .idle
          else r.state)) ∧
        (r.halted = false →
          (r.state = some .waking ∨ r.state = some .charging → ends r.state) ∧
          (r.state = some .waiting → r.phase ≠ .dockWait → s.lu.runs[v] = none → ends (some .idle)) ∧
          (r.state = some .waiting → (r.phase = .dockWait ∨ s.lu.runs[v] ≠ none) → exec cmd s = marked) ∧
          (r.state = some .driving → exec cmd s = marked) ∧
          (r.state = some .placing → r.phase = .standWait → ends (some .idle)) ∧
          (r.state = some .placing → r.phase ≠ .standWait → exec cmd s = marked) ∧
          (r.state = some .picking → exec cmd s = marked))

/-- VEHICLE ENROL and VEHICLE REMOVE (R144, R148, R157): a vehicle enrolled is not visited before the next poll cycle; a removed
one gives up its node, its waiting run and every record, and a visit in progress ends unheard. A REMOVE leaves every lane as it
was, so that of a removed halted vehicle stays OPEN (DEDUCED, log 25, since R144 names the node lock alone). -/
def Obligations.VehicleEnrolAndRemove : Prop :=
  ∀ (s : State) (n speed : Nat),
    let sp := max 300 (min 2000 speed)
    let code : Reply := ⟨if 300 ≤ speed ∧ speed ≤ 2000 then .ok else .okClamped, []⟩
    (11 < n → exec (.vehicleEnrol n speed) s = .next (s.reply ⟨.badFrame, []⟩) ∧
      exec (.vehicleRemove n) s = .next (s.reply ⟨.badFrame, []⟩).finish) ∧
    ∀ v : Vehicle, v.val = n →
      let r := s.fd.vehicles[v]
      (r.enrolled = true → exec (.vehicleEnrol n speed) s = .next { s with
        fd := { s.fd with vehicles := s.fd.vehicles.set v { r with speed := sp } }
        clp := { s.clp with lastReply := some code } }) ∧
      (r.enrolled = false → exec (.vehicleEnrol n speed) s = .next { s with
        fd := { s.fd with vehicles := s.fd.vehicles.set v { VehRec.reset with
          enrolled := true, speed := sp, state := some .fault, cause := some .unplaced, entry := some s.clk.hall
          delayFrom := s.clk.hall } }
        fl := { s.fl with links := s.fl.links.set v { LinkRec.reset with fresh := true } }
        clp := { s.clp with lastReply := some code } }) ∧
      (r.enrolled = false → exec (.vehicleRemove n) s = .next (s.reply ⟨.notFound, []⟩).finish) ∧
      (r.enrolled = true → ¬(r.state = some .idle ∧ r.load = none) →
        exec (.vehicleRemove n) s = .next (s.reply ⟨.badState, []⟩).finish) ∧
      (r.enrolled = true → r.state = some .idle → r.load = none → ∃ u : State,
        exec (.vehicleRemove n) s = .next u.finish ∧
        u = { s with su := { s.su with doors := u.su.doors }, lu := { s.lu with
                       nodeLocks := u.lu.nodeLocks, runs := s.lu.runs.set v none
                       waits := s.lu.waits.filter (fun e => e.veh != v) }
                     fd := { s.fd with vehicles := s.fd.vehicles.set v VehRec.reset }
                     fl := { s.fl with links := s.fl.links.set v LinkRec.reset, visit := u.fl.visit }
                     inbox := u.inbox, clp := { s.clp with lastReply := some ⟨.ok, []⟩ } } ∧
        (∀ m : Node, u.lu.nodeLocks[m] = if s.lu.nodeLocks[m] = some v then none else s.lu.nodeLocks[m]) ∧
        u.fl.visit = s.fl.visit.map (fun x => if x.veh = v then { x with removed := true } else x) ∧
        Msg.luExamine ∈ u.inbox)

/-- VEHICLE HALT (R141), VEHICLE RECOVER (R119, R142) and VEHICLE HOME (R143), with the events of a homing vehicle: passages are
counted to 32, and a free HOME node reached is claimed. That a second HALT orders HALT again, beside R141's "no further order", is
DEDUCED (log 25). DEDUCED (log 26): HOME_REACHED with no node is a failed homing, and a homing vehicle's PASSED and AT reports do
not set its node. That RECOVER keeps the place worked at and the roll expected, for a LIFTED or PLACED to come, is DEDUCED (log
26). -/
def Obligations.VehicleHaltRecoverAndHome : Prop :=
  ∀ (s : State) (n : Nat),
    let ok := (some ⟨.ok, []⟩ : Option Reply)
    (11 < n → exec (.vehicleHalt n) s = .next (s.reply ⟨.badFrame, []⟩).finish ∧
      exec (.vehicleHome n) s = .next (s.reply ⟨.badFrame, []⟩).finish) ∧
    (∀ k, 11 < n ∨ 127 < k → exec (.vehicleRecover n k) s = .next (s.reply ⟨.badFrame, []⟩).finish) ∧
    ∀ v : Vehicle, v.val = n →
      let r := s.fd.vehicles[v]
      let ordered := fun (o : Order) (u : State) => u.fl.links[v].order = some o ∧ u.fl.links[v].echoed = false ∧
        u.fl.links[v].count = (s.fl.links[v].count + 1) % 16
      let unlocked := fun (u : State) => u.lu.runs[v] = none ∧ (∀ g : Seg, u.lu.segLocks[g] =
          if s.lu.segLocks[g] = some v then none else s.lu.segLocks[g]) ∧
        (∀ e ∈ u.lu.waits, e.veh ≠ v) ∧ (∀ d : Fin 2, v ∉ u.su.doors[d].passages) ∧
        ∀ (l : Nat) (x : LaneRec), s.su.lanes[l]? = some x → u.su.lanes[l]? = some { x with
          motion := if x.motion = .opened v then .clearing (s.clk.tick + s.su.clearTime * 1000) else x.motion }
      (r.enrolled = false → exec (.vehicleHalt n) s = .next (s.reply ⟨.notFound, []⟩).finish ∧
        exec (.vehicleHome n) s = .next (s.reply ⟨.notFound, []⟩).finish ∧
        ∀ k, k < 128 → exec (.vehicleRecover n k) s = .next (s.reply ⟨.notFound, []⟩).finish) ∧
      (r.enrolled = true → ∃ u : State, exec (.vehicleHalt n) s = .next u.finish ∧ ordered .halt u ∧
        u = { s with su := { s.su with doors := u.su.doors }, lu := { s.lu with
                       waits := s.lu.waits.filter (fun e => e.veh != v) }
                     fd := { s.fd with vehicles := s.fd.vehicles.set v { r with
                       halted := true, phase := u.fd.vehicles[v].phase } }
                     fl := { s.fl with links := u.fl.links }, inbox := u.inbox, clp := { s.clp with lastReply := ok } } ∧
        (∀ d : Fin 2, u.su.doors[d].passages = s.su.doors[d].passages) ∧
        ∀ w, w ≠ v → u.fl.links[w] = s.fl.links[w]) ∧
      (∀ (k : Nat) (m : Node), m.val = k → r.enrolled = true →
        let tired : Prop := r.state = some .doze ∨ r.state = some .sleep ∨ r.state = some .waking ∨
          r.state = some .charging ∨ (r.reachable = false ∧ r.state ≠ some .lost)
        let other : Prop := (∃ x, s.lu.nodes[m] = some x ∧ x.kind = .plain) ∨ ∃ w, w ≠ v ∧ s.lu.nodeLocks[m] = some w
        (tired → exec (.vehicleRecover n k) s = .next (s.reply ⟨.badState, []⟩).finish) ∧
        (¬tired → s.lu.nodes[m] = none → exec (.vehicleRecover n k) s = .next (s.reply ⟨.notFound, []⟩).finish) ∧
        (¬tired → s.lu.nodes[m] ≠ none → other → exec (.vehicleRecover n k) s =
          .next (s.reply ⟨.conflict, []⟩).finish) ∧
        (¬tired → s.lu.nodes[m] ≠ none → ¬other → ∃ u : State, exec (.vehicleRecover n k) s = .next u.finish ∧
          u.clp = { s.clp with lastReply := ok } ∧ u.fd.vehicles[v].state = some .idle ∧ u.fd.vehicles[v].node = some m ∧
          u.fd.vehicles[v].halted = false ∧ u.fd.vehicles[v].cause = none ∧ u.fd.vehicles[v].load = r.load ∧
          u.fd.vehicles[v].work = r.work ∧ u.fd.vehicles[v].expected = r.expected ∧
          unlocked u ∧ u.lu.nodeLocks[m] = some v ∧
          (∀ k : Node, k ≠ m → u.lu.nodeLocks[k] = if s.lu.nodeLocks[k] = some v then none else s.lu.nodeLocks[k]) ∧
          (∀ t, s.vehTask? v = some t → t.vehicle = some v → u.fd.vehicles[v].task = none ∧ t.BaysFreed s u ∧
            u.EndRaised v (.failed .recovered) ∧
            ∃ o, u.fd.vehicles[v].outcome = some o ∧ o.id = t.id ∧ o.result = .failed .recovered) ∧
          ∀ w, w ≠ v → u.fd.vehicles[w] = s.fd.vehicles[w])) ∧
      (r.enrolled = true →
        let may : Prop := s.fd.fleet = .stopped ∧ r.reachable = true ∧ r.halted = false ∧ r.task = none ∧
          (r.state = some .idle ∨ r.state = some .fault ∨ r.state = some .lost ∨ r.state = some .doze ∨ r.state = some .sleep)
        (¬may → exec (.vehicleHome n) s = .next (s.reply ⟨.badState, []⟩).finish) ∧
        (may → ∃ u : State, exec (.vehicleHome n) s = .next u.finish ∧ u.clp = { s.clp with lastReply := ok } ∧
          unlocked u ∧ (∀ k : Node, u.lu.nodeLocks[k] = if s.lu.nodeLocks[k] = some v then none else s.lu.nodeLocks[k]) ∧
          u.fd.vehicles[v].passages = 0 ∧
          (r.state = some .doze ∨ r.state = some .sleep → ordered .wake u ∧ u.fd.vehicles[v].state = some .waking ∧
            u.fl.links[v].wakeExpiry = some (s.clk.tick + if r.power = .sleep then 30000 else 5000)) ∧
          (r.state = some .idle ∨ r.state = some .fault ∨ r.state = some .lost → ordered .home u ∧
            u.fd.vehicles[v].state = some .driving ∧ u.fd.vehicles[v].phase = .homing))) ∧
      (r.phase ≠ .homing → ∀ h, s.event v (.homeReached h) = s) ∧
      (r.phase = .homing →
        let failed := fun (u : State) => u.fd.vehicles[v].state = some .fault ∧ u.fd.vehicles[v].cause = some .homeFailed ∧
          (r.halted = false → ordered .halt u) ∧ u.nu.entries[srcVeh v].pending.getLsbD 6 = true
        (∀ (e : VehEvent) (h : Option Node), e = .passed h ∨ e = .at h →
          (r.passages < 31 → s.event v e = { s with
            fd := { s.fd with vehicles := s.fd.vehicles.set v { r with passages := r.passages + 1 } } }) ∧
          (31 ≤ r.passages → failed (s.event v e) ∧ (s.event v e).fd.vehicles[v].passages = 32)) ∧
        failed (s.event v (.homeReached none)) ∧
        ∀ h : Node,
          let home : Prop := (∃ x, s.lu.nodes[h] = some x ∧ x.kind = .home) ∧
            (s.lu.nodeLocks[h] = none ∨ s.lu.nodeLocks[h] = some v)
          (¬home → failed (s.event v (.homeReached (some h)))) ∧
          (home → ∃ u : State, u = s.event v (.homeReached (some h)) ∧ u.fd.vehicles[v].state = some .idle ∧
            u.fd.vehicles[v].phase = .none ∧ u.fd.vehicles[v].node = some h ∧ u.lu.nodeLocks[h] = some v ∧ unlocked u))

/-! ## The Fleet Link and the events of vehicles (chapters 7 and 8) -/

/-- Poll cycle, visits, missed visits and the two ways a vehicle is LOST (R149, R150, R155, R156, R158): who is visited and the
frame sent; when its reply window opens and closes (whole milliseconds, log 7); what a miss counts; LINK_LOST clears reachable and
ends the task, and leaves locks, runs and load as they are. A vehicle enrolled during the cycle is not visited in it (R157). The
visit of a vehicle removed meanwhile counts no miss, also when it is enrolled anew (DEDUCED, log 61). That a VISIT that finds a
visit in progress sends nothing is a DESIGN CHOICE (log 15), and LINK_LOSS is a command of its own, which acts where missed visits
count, whatever their count (DEDUCED, log 8). REPLY_WINDOW_EXPIRY and WAKE_EXPIRY are the moments themselves and act at any tick
(DEDUCED, log 8). -/
def Obligations.VisitsMissesAndLossOfLink : Prop :=
  ∀ (s : State) (v : Vehicle),
    let r := s.fd.vehicles[v]
    let k := s.fl.links[v]
    let kind := fun (o : Order) => match o with
      | .go _ _ => 1 | .pickRead => 2 | .lift => 3 | .backout => 4 | .place => 5 | .dock => 6 | .undock => 7 | .halt => 8
      | .doze => 9 | .sleep => 10 | .wake => 11 | .home => 12
    let ordering : Prop := k.order ≠ none ∧ k.echoed = false
    let visited : Prop := r.enrolled = true ∧ k.fresh = false ∧ (ordering ∨ r.power = .awake ∨ (r.power = .doze ∧ s.fl.cycle = v.val % 8))
    let args := fun (o : Option Order) => match o with
      | some (.go gs n) => byteOf n.val :: gs.map (fun g => byteOf g.val)
      | _ => []
    let frame := fun (o : Option Order) =>
      let body := byteOf v.val :: byteOf ((o.map kind).getD 0) :: byteOf k.count :: byteOf (k.lastEvent.getD 255) ::
        byteOf (args o).length :: args o
      0x5C#8 :: (body ++ [crc8 body])
    let ended : FleetLink := { s.fl with visit := none }
    let lost := fun (u : State) => u.fd.vehicles[v].reachable = false ∧ u.fd.vehicles[v].state = some .lost ∧
      u.fl.links[v].misses = 3 ∧ u.nu.entries[srcVeh v].pending.getLsbD 3 = true ∧
      u.lu.segLocks = s.lu.segLocks ∧ u.lu.nodeLocks = s.lu.nodeLocks ∧ u.lu.runs = s.lu.runs ∧
      u.su.rolls = s.su.rolls ∧ u.su.lanes = s.su.lanes ∧ u.fd.vehicles[v].load = r.load ∧
      (∀ d : Fin 2, u.su.doors[d].passages = s.su.doors[d].passages) ∧
      (r.state ≠ some .lost → (∀ e ∈ u.lu.waits, e.veh ≠ v) ∧
        ∀ t, s.vehTask? v = some t → t.vehicle = some v → u.fd.vehicles[v].task = none ∧ t.BaysFreed s u ∧
          u.EndRaised v (.failed .linkLost) ∧
          ∃ o, u.fd.vehicles[v].outcome = some o ∧ o.id = t.id ∧ o.result = .failed .linkLost) ∧
      ∀ w, w ≠ v → u.fd.vehicles[w] = s.fd.vehicles[w]
    (exec .pollCycleStart s = .next { s with fl := { s.fl with
      cycle := (s.fl.cycle + 1) % 8, links := s.fl.links.map (fun x => { x with fresh := false }) } }) ∧
    (¬visited ∨ s.fl.visit ≠ none → exec (.visit v) s = .next s) ∧
    (visited → s.fl.visit = none →
      let bytes := frame (if k.echoed then none else k.order)
      let opens := s.clk.tick + (bytes.length * 100 + 1151) / 1152
      exec (.visit v) s = .next { s with fl := { s.fl with
        visit := some ⟨v, opens, opens + 20, false, false⟩, sent := some bytes } }) ∧
    (s.fl.visit = none → exec .replyWindowExpiry s = .next s.finish) ∧
    (∀ x, s.fl.visit = some x → x.veh = v →
      (x.removed = true ∨ r.enrolled = false → exec .replyWindowExpiry s = .next ({ s with fl := ended } : State).finish) ∧
      (x.removed = false → r.enrolled = true →
        (r.power = .sleep ∨ (k.order = some .wake ∧ k.echoed = false) →
          exec .replyWindowExpiry s = .next ({ s with fl := ended } : State).finish) ∧
        (r.power ≠ .sleep → ¬(k.order = some .wake ∧ k.echoed = false) →
          (k.misses + 1 < 3 ∨ r.reachable = false → exec .replyWindowExpiry s = .next ({ s with fl := { ended with
            links := s.fl.links.set v { k with misses := min 3 (k.misses + 1) } } } : State).finish) ∧
          (3 ≤ k.misses + 1 → r.reachable = true → ∃ u : State, exec .replyWindowExpiry s = .next u.finish ∧ lost u ∧
            u.fl.visit = none)))) ∧
    (let counts : Prop := r.power ≠ .sleep ∧ ¬(k.order = some .wake ∧ k.echoed = false)
     (¬(r.enrolled = true ∧ r.reachable = true ∧ counts) → exec (.linkLoss v) s = .next s) ∧
     (r.enrolled = true → r.reachable = true → counts → ∃ u : State, exec (.linkLoss v) s = .next u.finish ∧ lost u)) ∧
    (k.wakeExpiry = none → exec (.wakeExpiry v) s = .next s.finish) ∧
    (k.wakeExpiry ≠ none → ∃ u : State, exec (.wakeExpiry v) s = .next u.finish ∧ lost u ∧ u.fl.links[v].wakeExpiry = none ∧
      u.fl.links[v].order = k.order)

/-- Status frames (R151, R153, R154). Fourteen bytes are a frame when the start byte is 0xC5, the CRC-8 over bytes 1 to 12 is as the
last byte has it, and vehicle, motion, node, load sensor and event lie in their tables (R152, R153, R158); its fields are read as
the layout has them. One that comes with no visit, before the part's own frame has been sent, or in a window already spoilt is
discarded; one that is corrupt, has a late byte, or is another vehicle's spoils the window. A taken one ends the visit, sets
reachable, clears the miss count and becomes the last status; it echoes the order its count names; its event is taken unless it
repeats the last one, and a skipped number is a gap. One taken in the visit of a vehicle removed meanwhile ends the visit at once
and writes nothing else (R157; that it does not end at its window is a DESIGN CHOICE, log 61). A vehicle that becomes reachable is
free for work (R129, R137). The echoes of WAKE, DOCK, with motion DOCKED, and UNDOCK, with motion STOPPED, are acted on (R137, R139,
R143, R156): the vehicle homes, begins its task or stands IDLE, with charge due at a balance of 6 or more; the CHARGE task ends and
the vehicle is CHARGING, its charge due as before (DEDUCED, log 39); it leaves CHARGING. The model's: STATUS_FRAME stands for the
arrival of its start byte (DESIGN CHOICE, log 7), a foreign or corrupt frame spoils the window, whose later frames are discarded
(DEDUCED, log 7), and the event number of a frame is read modulo 16 and a charge flag byte other than 1 as clear (DESIGN CHOICE, log
16). -/
def Obligations.StatusFramesAreTakenInTheirVisit : Prop :=
  (let shift := fun (c : Byte) => if c.msb then (c <<< 1) ^^^ 0x07#8 else c <<< 1
   crc8 [] = 0 ∧ ∀ (bs : List Byte) (b : Byte), crc8 (bs ++ [b]) = Nat.repeat shift 8 (crc8 bs ^^^ b)) ∧
  (∀ bytes : List Byte, bytes.length ≠ 14 → statusFields? bytes = none) ∧
  (∀ (b0 b1 b2 b3 b4 b5 b6 b7 b8 b9 b10 b11 b12 b13 : Byte) (f : StatusFields),
    let nodeIs := fun (b : Byte) (n : Option Node) => (b = 0xFF ∧ n = none) ∨ ∃ m : Node, n = some m ∧ b.toNat = m.val
    let tag := b9.toNat + 256 * b10.toNat + 65536 * b11.toNat + 16777216 * b12.toNat
    statusFields? [b0, b1, b2, b3, b4, b5, b6, b7, b8, b9, b10, b11, b12, b13] = some f ↔
      b0 = 0xC5 ∧ b13 = crc8 [b1, b2, b3, b4, b5, b6, b7, b8, b9, b10, b11, b12] ∧ b1.toNat = f.veh.val ∧
      f.count = b2.toNat ∧
      b3.toNat = (match f.status.motion with
        | .stopped => 0 | .moving => 1 | .lifting => 2 | .lowering => 3 | .docked => 4) ∧
      nodeIs b4 f.status.node ∧ b5.toNat = f.status.loaded.toNat ∧ f.status.charging = (b6 == 1) ∧
      (match f.event with
        | none => b7 = 0
        | some (.passed n) => b7 = 1 ∧ nodeIs b9 n
        | some (.at n) => b7 = 2 ∧ nodeIs b9 n
        | some (.tag t) => b7 = 3 ∧ t = if tag = 0 then .noRead else .roll tag
        | some .lifted => b7 = 4
        | some .placed => b7 = 5
        | some (.homeReached n) => b7 = 6 ∧ nodeIs b9 n
        | some (.error c) => b7 = 7 ∧ c = b9.toNat) ∧
      f.number = b8.toNat % 16) ∧
  (∀ (s : State) (bytes : List Byte) (gapless : Bool),
    let cmd : Instr := .statusFrame bytes gapless
    (s.fl.visit = none → exec cmd s = .next s.finish) ∧
    ∀ x, s.fl.visit = some x →
      let r := s.fd.vehicles[x.veh]
      let k := s.fl.links[x.veh]
      (s.clk.tick < x.opens ∨ x.spoiled = true → exec cmd s = .next s.finish) ∧
      (x.opens ≤ s.clk.tick → x.spoiled = false →
        (gapless = false ∨ (∀ f, statusFields? bytes = some f → f.veh ≠ x.veh) → exec cmd s =
          .next ({ s with fl := { s.fl with visit := some { x with spoiled := true } } } : State).finish) ∧
        ∀ f, statusFields? bytes = some f → gapless = true → f.veh = x.veh →
          (x.removed = true ∨ r.enrolled = false →
            exec cmd s = .next ({ s with fl := { s.fl with visit := none } } : State).finish) ∧
          (x.removed = false → r.enrolled = true →
            let echoes : Bool := decide (k.order ≠ none ∧ k.echoed = false ∧ f.count = k.count)
            let due : Bool := echoes || (k.awaitMotion && f.count == k.count)
            let docked : Bool := due && k.order == some .dock && f.status.motion == .docked
            let undocked : Bool := due && k.order == some .undock && f.status.motion == .stopped
            let gap : Bool := f.event.isSome && (match k.lastEvent with
              | some n => f.number != n && f.number != (n + 1) % 16
              | none => false)
            let base : State := { s with
              fd := { s.fd with vehicles := s.fd.vehicles.set x.veh { r with
                reachable := true
                power := if echoes then (if k.order = some .doze then .doze else if k.order = some .sleep then .sleep
                  else .awake) else r.power } }
              fl := { s.fl with visit := none, links := s.fl.links.set x.veh { k with
                misses := 0, status := some f.status, echoed := k.echoed || echoes
                wakeExpiry := if echoes then none else k.wakeExpiry
                awaitMotion := (k.awaitMotion || echoes) && ((k.order == some .dock && !docked) ||
                  (k.order == some .undock && !undocked))
                lastEvent := if f.event.isSome then some f.number else k.lastEvent
                gaps := if gap then min 255 (k.gaps + 1) else k.gaps } }
              inbox := s.inbox ++ (if r.reachable then [] else [.fdFree x.veh]) }
            let told : State := if echoes = true ∧ k.order = some .wake then base.wakeAnswer x.veh
              else if docked then base.docked x.veh else if undocked then base.undocked x.veh else base
            (f.event = none ∨ k.lastEvent = some f.number → exec cmd s = .next told.finish) ∧
            ∀ e, f.event = some e → k.lastEvent ≠ some f.number → exec cmd s = .next (told.event x.veh e).finish))) ∧
  ∀ (s : State) (v : Vehicle),
    let r := s.fd.vehicles[v]
    let now := fun (x : VehRec) (st : VehState) => ({ x with
      state := some st, entry := some s.clk.hall, delayFrom := s.clk.hall, parkWait := false, sleepTested := false
      cause := none } : VehRec)
    let rests := fun (x : VehRec) => ({ now x .idle with
      phase := .none, undocking := false, chargeDue := x.chargeDue || decide (6 ≤ x.balance) } : VehRec)
    let becomes := fun (x : VehRec) (m : Msg) => ({ s with
      fd := { s.fd with vehicles := s.fd.vehicles.set v x }, inbox := s.inbox ++ [m] } : State)
    (r.state ≠ some .waking → s.wakeAnswer v = s) ∧
    (r.state = some .waking → r.homeNext = true → r.halted = false → s.wakeAnswer v = { s with
      fd := { s.fd with vehicles := s.fd.vehicles.set v { now r .driving with phase := .homing, homeNext := false } }
      fl := { s.fl with links := s.fl.links.set v { s.fl.links[v] with
        count := (s.fl.links[v].count + 1) % 16, order := some .home, echoed := false, awaitMotion := false
        wakeExpiry := none } } }) ∧
    (r.state = some .waking → r.homeNext = false → r.task ≠ none → s.wakeAnswer v = becomes (now r .idle) (.fdStart v)) ∧
    (r.state = some .waking → r.homeNext = false → r.task = none → ∃ u : State, u = s.wakeAnswer v ∧
      u.fd.vehicles[v] = rests r ∧ Msg.fdFree v ∈ u.inbox) ∧
    (r.phase ≠ .dockWait → s.docked v = s) ∧
    (r.phase = .dockWait → ∃ u : State, u = s.docked v ∧ u.fd.vehicles[v].state = some .charging ∧
      u.fd.vehicles[v].phase = .none ∧ u.fd.vehicles[v].topUp = 0 ∧ u.fd.vehicles[v].chargeDue = r.chargeDue ∧
      Msg.fdArbiter ∈ u.inbox ∧
      ∀ t, s.vehTask? v = some t → t.vehicle = some v → u.fd.vehicles[v].task = none ∧ u.task? t.id = none ∧
        ∃ o, u.fd.vehicles[v].outcome = some o ∧ o.id = t.id ∧
          o.result = (if t.cancel then (if t.kind = .unstack then .done else .failed .cancelled) else .done) ∧
          u.EndRaised v o.result) ∧
    (r.state ≠ some .charging ∨ r.undocking = false → s.undocked v = s) ∧
    (r.state = some .charging → r.undocking = true → r.task ≠ none →
      s.undocked v = becomes { now r .idle with undocking := false } (.fdStart v)) ∧
    (r.state = some .charging → r.undocking = true → r.task = none → ∃ u : State, u = s.undocked v ∧
      u.fd.vehicles[v] = rests r ∧ Msg.fdFree v ∈ u.inbox)

/-- The events of a vehicle at the step that expects them. Reads of a pick (R132), with a cancel pending (R128; DEDUCED, log 24),
and of a CHECK (R24); lifts and placements at a lane, a bay and a stand (R17, R21, R32, R66, R131, R133, R134); the AT report of
the vehicle back at its lane head at any step of its work (R23, R131), dropped of a LOST one; the rounds of an UNSTACK (R135); OFF_RUN and an error (R140). A
task that ends gives back every bay still RESERVED for it and is raised on the vehicle's source (R31, R126). A LIFTED or PLACED that the step does not expect is offered
all the same (R132, R141) and leaves the rest of the vehicle's record; a PLACED so taken may make it available (R129). RUN_DONE,
dropped of a LOST vehicle (R118), and the drive to a place (R130); the begin of a pick (R131) and of a placement (R133, R134), with the answers to place begin as
R65 has them, sent again when the arm clears. The fifth failed read and the passage limit are commands of their own, whatever the
counts (DEDUCED, log 8). A vehicle in FAULT that reports a node it does not hold is OFF_RUN too (DEDUCED, log 26). DEDUCED too: a
refused lift is FAILED(STORE_REFUSED) with a cancel pending (log 24), and a FAULT or halted vehicle's AT report at its lane head
makes the lane CLEARING (log 26). That an UNSTACK's destination is the bay of its round is the model's (DESIGN CHOICE, log 55),
and so is that a detour whose escape node is the node of the task's next place begins the work there (DESIGN CHOICE, log 58).
DEDUCED too: an UNSTACK that finds its lane empty at the pick is DONE (log 27). DEDUCED, the model's reading of R141 (log 25): a
halted vehicle at a stand sends no place begin, though that is neither an order nor a run, and is WAITING with its task as it
was, and so is one whose TAG would be followed by LIFT or PICK_READ. DEDUCED (log 60): a vehicle of another task than a MOVE that
comes to its placement without the roll is ordered PLACE all the same, and its PLACED is refused. -/
def Obligations.VehicleEventsMoveRollsAndTasks : Prop :=
  ∀ (s : State) (v : Vehicle),
    let r := s.fd.vehicles[v]
    let order := fun (u : State) => u.fl.links[v].order
    let own := fun (t : TaskRec) => s.vehTask? v = some t ∧ t.vehicle = some v
    let cancelled := fun (t : TaskRec) => (if t.kind = .unstack then .done else .failed .cancelled : TaskResult)
    let closed := fun (u : State) (t : TaskRec) (res : TaskResult) => u.fd.vehicles[v].task = none ∧ u.task? t.id = none ∧
      u.fd.vehicles[v].state = some .idle ∧ u.EndRaised v res ∧
      ∃ o, u.fd.vehicles[v].outcome = some o ∧ o.id = t.id ∧ o.result = res
    let ended := fun (u : State) (t : TaskRec) (res : TaskResult) => closed u t res ∧ t.BaysFreed s u
    let down := fun (x : RollRec) (l : Loc) => ({ x with
      state := if x.ready ≤ s.clk.hall then .ready else .conditioning, loc := l, reservation := none } : RollRec)
    let clearing : LaneMotion := .clearing (s.clk.tick + s.su.clearTime * 1000)
    (∀ t, r.phase = .reading → s.vehTask? v = some t → t.kind ≠ .check → r.halted = false →
      (∀ n, r.expected = some n → order (s.event v (.tag (.roll n))) = some .lift ∧
        (s.event v (.tag (.roll n))).fd.vehicles[v].phase = .lifting) ∧
      ∀ tag, (∀ n, tag = .roll n → r.expected ≠ some n) →
        let u := s.event v (.tag tag)
        let failed : TaskResult := if t.cancel then cancelled t else .failed .pickFailed
        (t.cancel = false → t.reads < 4 → order u = some .pickRead ∧ u.fd.vehicles[v].phase = .reading ∧
          u.task? t.id = some { t with reads := t.reads + 1 }) ∧
        (t.cancel = true → t.reads < 4 → order u = some .backout ∧
          (∀ l, r.work = some (.lane l) → u.fd.vehicles[v].phase = .leaving (cancelled t)) ∧
          (∀ b, r.work = some (.bay b) → t.vehicle = some v → ended u t (cancelled t))) ∧
        (4 ≤ t.reads → (∀ l, r.work = some (.lane l) → order u = some .backout ∧ u.fd.vehicles[v].phase = .leaving failed) ∧
          ∀ b, r.work = some (.bay b) → t.vehicle = some v → order u = some .backout ∧ ended u t failed) ∧
        (∀ l lane, r.work = some (.lane l) → s.su.lanes[l]? = some lane → lane.suspect = false →
          ∃ w : State, exec (.pickFailed v tag) s = .next w.finish ∧ order w = some .backout ∧
            w.fd.vehicles[v].phase = .leaving failed ∧
            w.su = { s.su with lanes := s.su.lanes.set l { lane with suspect := true, lastTag := some tag } } ∧
            w.nu = s.nu.raise srcStore (Reason.bit .laneSuspect)) ∧
        ∀ b n, r.work = some (.bay b) → s.su.bays[b].state = .occupied n → s.su.bays[b].suspect = false → t.vehicle = some v →
          ∃ w : State, exec (.pickFailed v tag) s = .next w.finish ∧ order w = some .backout ∧ ended w t failed ∧
            w.su.bays[b] = ⟨.occupied n, true, some tag⟩ ∧ w.nu.entries[srcStore].pending.getLsbD 1 = true) ∧
    ((∀ t, s.vehTask? v = some t → r.phase = .reading → t.kind = .check) → ∀ tag, exec (.pickFailed v tag) s = .next s) ∧
    (∀ t tag, r.phase = .reading → s.vehTask? v = some t → t.kind ≠ .check → r.halted = true →
      t.reads < 4 ∨ (∃ n, tag = .roll n ∧ r.expected = some n) → ∃ u : State, u = s.event v (.tag tag) ∧
        u.fd.vehicles[v].state = some .waiting ∧ u.fd.vehicles[v].phase = .stalled ∧ u.fd.vehicles[v].task = r.task ∧
        u.task? t.id = some { t with reads := t.reads + 1 } ∧ u.fl = s.fl ∧ u.su = s.su) ∧
    (∀ t l lane tag, r.phase = .reading → s.vehTask? v = some t → t.kind = .check → t.source = some (.lane l) →
      s.su.lanes[l]? = some lane → r.halted = false →
      let same : Prop := tag = match lane.list.head? with
        | some n => .roll n
        | none => .noRead
      let u := s.event v (.tag tag)
      order u = some .backout ∧ u.fd.vehicles[v].phase = .leaving (if t.cancel then .failed .cancelled else .done) ∧
      (same → u.su = { s.su with lanes := s.su.lanes.set l { lane with suspect := false, lastTag := some tag } } ∧
        u.nu = s.nu ∧ (lane.suspect = true → Msg.fpRetry ∈ u.inbox)) ∧
      (¬same → u.su = { s.su with lanes := s.su.lanes.set l { lane with suspect := true, lastTag := some tag } } ∧
        u.nu = if lane.suspect then s.nu else s.nu.raise srcStore (Reason.bit .laneSuspect))) ∧
    (∀ (n : Nat) (x : RollRec), r.phase = .lifting → r.expected = some n → s.roll? n = some x →
      (x.state = .conditioning ∨ x.state = .ready ∨ x.state = .reserved) → r.load = none → s.PlacesOk →
      let u := s.event v .lifted
      (∀ l lane, r.work = some (.lane l) → s.su.lanes[l]? = some lane → lane.motion = .opened v → lane.list.head? = some n →
        u.fd.vehicles[v].load = some n ∧ u.fd.vehicles[v].phase = .lifted ∧
        u.roll? n = some { x with state := .carried, loc := .vehicle v } ∧
        u.su.lanes = s.su.lanes.set l { lane with list := lane.list.tail } ∧
        ∀ m, m ≠ n → u.roll? m = (s.roll? m).map (fun y => match y.loc with
          | .lane k d => if k = l then { y with loc := .lane k (d - 1) } else y
          | _ => y)) ∧
      (∀ l lane, r.work = some (.lane l) → s.su.lanes[l]? = some lane → (lane.motion ≠ .opened v ∨ lane.list.head? ≠ some n) →
        u.fd.vehicles[v].load = none ∧ u.su = s.su ∧ u.fd.vehicles[v].phase = .leaving (.failed .storeRefused)) ∧
      (∀ b, r.work = some (.bay b) → s.su.bays[b].state = .occupied n →
        u.fd.vehicles[v].load = some n ∧ u.roll? n = some { x with state := .carried, loc := .vehicle v } ∧
        u.su.bays[b].state = .free ∧ Msg.fpRetry ∈ u.inbox) ∧
      ∀ b t, r.work = some (.bay b) → s.su.bays[b].state ≠ .occupied n → own t → ended u t (.failed .storeRefused) ∧
        u.fd.vehicles[v].load = none) ∧
    (∀ (n : Nat) (x : RollRec), r.phase = .lowering → r.load = some n → s.roll? n = some x → x.state = .carried → s.PlacesOk →
      let u := s.event v .placed
      (∀ l lane, r.work = some (.lane l) → s.su.lanes[l]? = some lane → lane.motion = .opened v →
        lane.list.length < lane.depth → u.fd.vehicles[v].load = none ∧ u.fd.vehicles[v].phase = .lowered ∧
        u.roll? n = some (down x (.lane l 0)) ∧ u.su.lanes = s.su.lanes.set l { lane with list := n :: lane.list }) ∧
      (∀ b, r.work = some (.bay b) → (s.su.bays[b].state = .free ∨ ∃ k, r.task = some k ∧ s.su.bays[b].state = .reserved k) →
        u.fd.vehicles[v].load = none ∧ u.roll? n = some (down x (.bay b)) ∧
        u.su.bays[b] = { s.su.bays[b] with state := .occupied n } ∧ ∀ t, own t → t.kind ≠ .unstack → closed u t .done ∧
          ∀ k : Fin 8, k ≠ b → t.HasBay s k → u.su.bays[k].state = .free) ∧
      (∀ st, r.work = some (.stand st) → s.ssq[st].loading = some v → x.reservation = some st →
        u.fd.vehicles[v].load = none ∧
        u.roll? n = some { x with state := .standby, loc := .stand st s.ssq[st].standbyArm } ∧
        u.ssq[st].armRoll s.ssq[st].standbyArm = some n ∧ u.ssq[st].loading = none ∧ u.ssq[st].prepStart = some s.clk.hall ∧
        u.ssq[st].state = (if s.ssq[st].state = .loading then .preparing else s.ssq[st].state) ∧
        ∀ t, own t → ended u t .done) ∧
      ∀ st t, r.work = some (.stand st) → s.ssq[st].loading ≠ some v → own t →
        u.fd.vehicles[v].load = some n ∧ ended u t (if t.cancel then cancelled t else .failed .storeRefused)) ∧
    (∀ t, r.phase = .lowering → r.load = none → own t →
      let u := s.event v .placed
      let res : TaskResult := if t.cancel then cancelled t else .failed .storeRefused
      (∀ l, r.work = some (.lane l) → u.fd.vehicles[v].phase = .leaving res ∧ u.fd.vehicles[v].task = r.task ∧ u.su = s.su) ∧
      ((∀ l, r.work ≠ some (.lane l)) → ended u t res ∧ u.fd.vehicles[v].load = none)) ∧
    (∀ (n : Nat) (x : RollRec), r.phase ≠ .lifting → r.expected = some n → s.roll? n = some x → r.load = none → s.PlacesOk →
      let u := s.event v .lifted
      let taken : Prop := u.fd.vehicles[v] = { r with load := some n, backDue := true } ∧
        u.roll? n = some { x with state := .carried, loc := .vehicle v }
      (∀ b, r.work = some (.bay b) → s.su.bays[b].state = .occupied n →
        (x.state = .conditioning ∨ x.state = .ready ∨ x.state = .reserved) →
        taken ∧ u.su.bays[b].state = .free ∧ Msg.fpRetry ∈ u.inbox) ∧
      (∀ b, r.work = some (.bay b) → s.su.bays[b].state ≠ .occupied n →
        u.su = s.su ∧ u.fd.vehicles[v] = { r with backDue := true }) ∧
      (∀ l lane, r.work = some (.lane l) → s.su.lanes[l]? = some lane → lane.motion = .opened v → lane.list.head? = some n →
        (x.state = .conditioning ∨ x.state = .ready ∨ x.state = .reserved) →
        taken ∧ u.su.lanes = s.su.lanes.set l { lane with list := lane.list.tail }) ∧
      ∀ l lane, r.work = some (.lane l) → s.su.lanes[l]? = some lane → (lane.motion ≠ .opened v ∨ lane.list.head? ≠ some n) →
        u.su = s.su ∧ u.fd.vehicles[v] = { r with backDue := true }) ∧
    (∀ (n : Nat) (x : RollRec), r.phase ≠ .lowering → r.load = some n → s.roll? n = some x → x.state = .carried → s.PlacesOk →
      let u := s.event v .placed
      (∀ b, r.work = some (.bay b) → (s.su.bays[b].state = .free ∨ ∃ k, r.task = some k ∧ s.su.bays[b].state = .reserved k) →
        u.fd.vehicles[v] = { r with load := none, backDue := true } ∧ u.roll? n = some (down x (.bay b)) ∧
        u.su.bays[b] = { s.su.bays[b] with state := .occupied n } ∧ Msg.fdFree v ∈ u.inbox) ∧
      ∀ l lane, r.work = some (.lane l) → s.su.lanes[l]? = some lane → lane.motion = .opened v →
        lane.list.length < lane.depth → u.fd.vehicles[v] = { r with load := none, backDue := true } ∧
        u.roll? n = some (down x (.lane l 0)) ∧ u.su.lanes = s.su.lanes.set l { lane with list := n :: lane.list }) ∧
    (∀ (n : Node) (l : Nat) (lane : LaneRec) (x : NodeRec), s.lu.runs[v] = none → s.lu.nodeLocks[n] = some v →
      s.lu.nodes[n] = some x → x.kind = .laneHead l → s.su.lanes[l]? = some lane → lane.motion = .opened v →
      r.backDue = true → r.phase ≠ .homing →
      let u := s.event v (.at (some n))
      (r.state ≠ some .lost → u.su.lanes[l]? = some { lane with motion := clearing }) ∧
      (r.state ≠ some .lost → ∀ t, own t →
        (∀ res, r.phase = .leaving res → ended u t res) ∧ (r.phase = .lowered → t.kind ≠ .unstack → ended u t .done) ∧
        (r.phase = .lifted → t.cancel = true → ended u t (cancelled t)) ∧
        (r.phase = .lifted → t.cancel = false → ∀ y, u.task? t.id = some y → y.state = .carrying ∨ y.state = .placing)) ∧
      (r.state = some .lost → r.phase = .none →
        u = { s with fd := { s.fd with vehicles := s.fd.vehicles.set v { r with node := some n } } })) ∧
    (∀ t l, own t → t.kind = .unstack → t.source = some (.lane l) →
      let u := s.placeDone v
      let head := (s.su.laneList l).head?
      let short : Prop := ∀ n, head = some n → s.su.rollState? n = some .reserved ∨
        ∃ y ∈ s.fd.tasks, y.kind = .relocate ∧ y.roll = some n
      let done : Prop := t.count ≤ 1 ∨ t.cancel = true ∨ short
      let spare := fun (b : Fin 8) => s.su.bays[b].state = .free ∧ s.su.bays[b].suspect = false
      (done → ended u t .done ∧ ∃ o, u.fd.vehicles[v].outcome = some o ∧ o.moved = some (t.moved + 1)) ∧
      (¬done → (∀ b, ¬spare b) → ended u t (.failed .noBay)) ∧
      ∀ b, ¬done → spare b → (∀ b', b' < b → ¬spare b') → ∀ y, u.task? t.id = some y → y.bay = some b ∧
        y.dest = some (.bay b) ∧ y.moved = t.moved + 1 ∧ y.count = t.count - 1 ∧ u.su.bays[b].state = .reserved t.id) ∧
    (let now := fun (st : VehState) (p : Phase) => ({ (if r.state = some st then r else { r with
       state := some st, entry := some s.clk.hall, delayFrom := s.clk.hall, parkWait := false, sleepTested := false
       cause := none } : VehRec) with phase := p } : VehRec)
     let beside := fun (u : State) => u.su = s.su ∧ u.lu = s.lu ∧ u.nu = s.nu ∧ u.clk = s.clk ∧
       ∀ k, k ≠ v → u.fd.vehicles[k] = s.fd.vehicles[k] ∧ u.fl.links[k] = s.fl.links[k]
     let next := fun (t : TaskRec) => if t.state = .carrying ∨ t.kind = .move ∨ t.kind = .charge ∨ t.kind = .park then t.dest
       else t.source
     (r.state = some .fault ∨ r.state = some .lost → ∀ detour, s.runDone v detour = s) ∧
     (r.state ≠ some .fault → r.state ≠ some .lost → s.vehTask? v = none → ∀ detour, ∃ u : State, u = s.runDone v detour ∧
       u.fd.vehicles[v].state = some .idle ∧ u.fd.vehicles[v].phase = .none ∧ Msg.fdFree v ∈ u.inbox) ∧
     (∀ t, own t → (r.state ≠ some .fault → r.state ≠ some .lost → ∀ detour,
         (t.cancel = true → ended (s.runDone v detour) t (cancelled t)) ∧
         (t.cancel = false → next t = none → ended (s.runDone v detour) t (.failed .noRoute)) ∧
         ∀ p, t.cancel = false → next t = some p →
           (s.lu.placeNode p = r.node → s.runDone v detour = (s.beginWork v t p).reportTask t.id) ∧
           (s.lu.placeNode p ≠ r.node → s.runDone v detour =
             (if detour then s.driveTo v t p else s.askRun v t).reportTask t.id)) ∧
       (∀ p m n, s.lu.placeNode p = some m → r.node = some n →
         (n ≠ m → s.lu.lookup n m false = none → ended (s.driveTo v t p) t (.failed .noRoute)) ∧
         (∀ a, n ≠ m → s.lu.lookup n m false = some a → ∃ u : State, u.task? t.id =
             some { t with route := some ⟨a.number, a.nodes, a.total⟩ } ∧ u = { s with fd := { s.fd with tasks := u.fd.tasks } } ∧
           s.driveTo v t p = u.askRun v { t with route := some ⟨a.number, a.nodes, a.total⟩ }) ∧
         (n = m → (∀ l, p ≠ .lane l) → s.driveTo v t p = s.beginWork v t p) ∧
         ∀ l lane, n = m → p = .lane l → s.su.lanes[l]? = some lane → r.halted = false →
           let place : Prop := t.state = .carrying ∨ t.kind = .move
           let shut : Prop := lane.blocked = true ∨ (lane.suspect = true ∧ ¬place ∧ t.kind ≠ .check)
           (shut → ended (s.driveTo v t p) t (.failed .laneRefused)) ∧
           (¬shut → lane.motion ≠ .idle → lane.motion ≠ .opened v → ∃ u : State, u = s.driveTo v t p ∧ beside u ∧
             u.fd.vehicles[v] = now .waiting .laneWait) ∧
           (¬shut → lane.motion = .idle ∨ lane.motion = .opened v → s.driveTo v t p = ({ s with
             su := { s.su with lanes := s.su.lanes.set l { lane with motion := .opened v } }
             fd := { s.fd with vehicles := s.fd.vehicles.set v { r with workBegun := false, backDue := false } } } :
               State).beginWork v t p)) ∧
       (let stalls := fun (p : Place) => ∃ u : State, u = s.beginWork v t p ∧ beside u ∧ u.fl = s.fl ∧ u.ssq = s.ssq ∧
          u.fd.tasks = s.fd.tasks ∧ u.fd.vehicles[v] = { now .waiting .stalled with work := some p }
        r.halted = true → (t.kind = .charge → ∀ p, stalls p) ∧ (t.kind = .deliver → ∀ st, stalls (.stand st)) ∧
          (∀ p, ((∃ l, p = .lane l) ∨ ∃ b, p = .bay b) → t.kind ≠ .charge → t.kind ≠ .park →
            t.state = .carrying ∨ t.kind = .move → t.kind ≠ .move ∨ r.load ≠ none → stalls p) ∧
          (∀ l : Nat, t.kind ∈ [.deliver, .relocate, .unstack, .check] → t.state ≠ .carrying →
            t.kind ≠ .unstack ∨ (s.su.laneList l).head? ≠ none → stalls (.lane l)) ∧
          ∀ (b : Fin 8) (n : Nat), t.kind = .deliver ∨ t.kind = .relocate → t.state ≠ .carrying →
            s.su.bays[b].state = .occupied n → s.su.bays[b].suspect = false → t.roll = some n → stalls (.bay b)) ∧
       (t.kind = .move → ∀ n, ended (s.beginWork v t (.node n)) t .done) ∧
       (t.kind = .charge → r.halted = false → ∀ p, ∃ u : State, u = s.beginWork v t p ∧ beside u ∧ order u = some .dock ∧
         u.fd.vehicles[v] = { now .waiting .dockWait with work := some p } ∧ u.fd.tasks = s.fd.tasks) ∧
       (t.kind = .park → r.halted = false → ∀ p, ∃ u : State, u = s.beginWork v t p ∧ order u = some .doze ∧
         u.fd.vehicles[v].state = some .doze ∧ u.fd.vehicles[v].task = none ∧ u.task? t.id = none) ∧
       (let reads := fun (p : Place) (head : Option Nat) => ∃ u : State, u = s.beginWork v t p ∧ beside u ∧
            order u = some .pickRead ∧ u.task? t.id = some { t with state := .picking, reads := 0 } ∧
            u.fd.vehicles[v] = { now .picking .reading with work := some p, expected := head, workBegun := true }
        let leaves := fun (p : Place) (head : Option Nat) => ∃ u : State, u = s.beginWork v t p ∧ beside u ∧
             order u = some .backout ∧
            u.task? t.id = some { t with state := .picking, reads := 0, fail := some .headChanged } ∧
            u.fd.vehicles[v] = { now .picking (.leaving (.failed .headChanged)) with
              work := some p, expected := head, workBegun := true, backDue := true }
        let lowers := fun (p : Place) => ∃ u : State, u = s.beginWork v t p ∧ beside u ∧ order u = some .place ∧
            u.task? t.id = some { t with state := .placing } ∧
            u.fd.vehicles[v] = { now .placing .lowering with work := some p, workBegun := true }
        (∀ l : Nat, r.halted = false → t.state ≠ .carrying →
          let head := (s.su.laneList l).head?
          (t.kind = .check → reads (.lane l) head) ∧
          (t.kind = .unstack → (head ≠ none → reads (.lane l) head) ∧
            (head = none → ended (s.beginWork v t (.lane l)) t .done)) ∧
          (t.kind = .deliver ∨ t.kind = .relocate →
            (head = t.roll → reads (.lane l) head) ∧ (head ≠ t.roll → leaves (.lane l) head))) ∧
        (∀ b : Fin 8, r.halted = false → t.state ≠ .carrying → t.kind = .deliver ∨ t.kind = .relocate →
          (∀ n, s.su.bays[b].state = .occupied n → s.su.bays[b].suspect = false →
            (t.roll = some n → reads (.bay b) (some n)) ∧
            (t.roll ≠ some n → ended (s.beginWork v t (.bay b)) t (.failed .headChanged))) ∧
          ((∀ n, s.su.bays[b].state ≠ .occupied n) ∨ s.su.bays[b].suspect = true →
            ended (s.beginWork v t (.bay b)) t (.failed .storeRefused))) ∧
        (∀ p, ((∃ l, p = .lane l) ∨ ∃ b, p = .bay b) → t.kind ≠ .charge → t.kind ≠ .park →
          t.state = .carrying ∨ t.kind = .move →
          (t.kind = .move → r.load = none → ended (s.beginWork v t p) t .done) ∧
          (t.kind ≠ .move ∨ r.load ≠ none → r.halted = false → lowers p)) ∧
        ∀ st : Stand, t.kind = .deliver → r.halted = false →
          let x := s.ssq[st]
          let clear : Prop := x.standbyRoll? = none
          let butt : Prop := ∃ n, x.standbyRoll? = some n ∧ s.su.rollState? n = some .butt
          let same : Prop := (x.state = .loading ∨ x.state = .runout) ∧ clear ∧ x.loading = some v
          let free : Prop := (x.state = .empty ∨ x.state = .single ∨ x.state = .runout) ∧ clear ∧ x.loading = none
          let waits : Prop := (x.state = .butt ∨ x.state = .runout) ∧ butt
          (x.present = true → same → lowers (.stand st) ∧ (s.beginWork v t (.stand st)).ssq = s.ssq) ∧
          (x.present = true → free → lowers (.stand st) ∧ (s.beginWork v t (.stand st)).ssq = s.ssq.set st { x with
            state := if x.state = .runout then .runout else .loading, loading := some v }) ∧
          (x.present = true → waits → ∃ u : State, u = s.beginWork v t (.stand st) ∧ beside u ∧ u.ssq = s.ssq ∧ u.fl = s.fl ∧
            u.task? t.id = some { t with state := .placing } ∧
            u.fd.vehicles[v] = { now .placing .standWait with work := some (.stand st) }) ∧
          (x.present = false ∨ (¬same ∧ ¬free ∧ ¬waits) →
            ended (s.beginWork v t (.stand st)) t (.failed .standRefused)) ∧
          (r.phase = .standWait → t.stand = some st →
            (∀ k y, k ≠ v → s.fd.vehicles[k].phase = .standWait → s.vehTask? k = some y → y.stand ≠ some st) →
            s.handle (.fdArmClear st) = s.beginStand v t st ∧
            s.beginWork v t (.stand st) = ({ s with
              fd := { s.fd with vehicles := s.fd.vehicles.set v { r with work := some (.stand st) } } } : State).beginStand
                v t st)))) ∧
    (∀ n : Node, r.phase ≠ .homing → r.state ≠ some .lost → r.halted = false →
      (s.lu.runs[v] = none ∧ s.lu.nodeLocks[n] ≠ some v) ∨ (∃ g, s.lu.runs[v] = some g ∧ n ≠ g.last ∧
        ∀ x ∈ g.run.segs.drop g.passed, x.far ≠ n) →
      let u := s.event v (.passed (some n))
      u.fd.vehicles[v].state = some .fault ∧ u.fd.vehicles[v].cause = some .position ∧ order u = some .halt ∧
      u.nu.entries[srcVeh v].pending.getLsbD 4 = true ∧ u.fd.vehicles[v].load = r.load ∧
      (∀ t, own t → u.fd.vehicles[v].task = none ∧ u.task? t.id = none ∧ u.EndRaised v (.failed .positionFault)) ∧
      u.lu.segLocks = s.lu.segLocks ∧ u.lu.nodeLocks = s.lu.nodeLocks ∧ u.lu.runs = s.lu.runs ∧ u.su.lanes = s.su.lanes) ∧
    (∀ code : Nat, r.state ≠ some .lost → r.halted = false → ∃ u : State, u = s.event v (.error code) ∧
      u.fd.vehicles[v].state = some .fault ∧ u.fd.vehicles[v].cause = some .vehicleError ∧
      u.fd.vehicles[v].errorCode = some code ∧ order u = some .halt ∧ u.fd.vehicles[v].load = r.load ∧
      (∀ t, own t → u.fd.vehicles[v].task = none ∧ u.task? t.id = none ∧ u.EndRaised v (.failed .vehicleError)) ∧
      u.lu.segLocks = s.lu.segLocks ∧ u.lu.nodeLocks = s.lu.nodeLocks ∧ u.lu.runs = s.lu.runs) ∧
    (r.phase ≠ .homing → exec (.homePassageLimit v) s = .next s) ∧
    (r.phase = .homing → r.halted = false → ∃ u : State, exec (.homePassageLimit v) s = .next u.finish ∧
      u.fd.vehicles[v].state = some .fault ∧ u.fd.vehicles[v].cause = some .homeFailed ∧
      u.fd.vehicles[v].passages = 32 ∧ order u = some .halt ∧ u.nu.entries[srcVeh v].pending.getLsbD 6 = true)

/-! ## Invariants that every step keeps -/

/-- Ranges and tables: the configuration values, the charge reckoning (with charge due of a vehicle that stands without task in IDLE
or DOZE at a balance of 6 or more), the roll records, the home passages, the projection and count
records, the line, the links and the notices stay within what their rules give; at most 32 tasks wait under ids 1 to 65,535 no two
of which are the same, at most 512 rolls stand under ascending numbers, and no lane holds more than its depth. -/
def Obligations.EveryStepKeepsTheRangesAndTables : Prop :=
  (∀ s t : State, s.RangesOk → step s = .next t → t.RangesOk) ∧
  ∀ s t : State, s.fd.QueueOk ∧ s.su.TablesOk → step s = .next t → t.fd.QueueOk ∧ t.su.TablesOk

/-- Places: a roll is in exactly one place, with a state and reservation that fit it, and every stand's arms, loading vehicle,
timer and fault part fit its state (R5, R61, R62). -/
def Obligations.EveryStepKeepsThePlacesAndStands : Prop :=
  ∀ s t : State, s.PlacesOk → s.StandsOk → step s = .next t → t.PlacesOk ∧ t.StandsOk

/-- Locks: a vehicle on a granted run holds its end node and every segment it has still to pass (R108, R112, R114); so no two vehicles
ever have the same segment ahead of them, nor the same end node. -/
def Obligations.EveryStepKeepsRunsApart : Prop :=
  (∀ s t : State, s.LocksOk → step s = .next t → t.LocksOk) ∧
  ∀ (s : State) (v w : Vehicle) (g h : Granted), s.LocksOk → v ≠ w → s.lu.runs[v] = some g → s.lu.runs[w] = some h →
    g.run.stop ≠ h.run.stop ∧ ∀ x ∈ g.run.segs.drop g.passed, ∀ y ∈ h.run.segs.drop h.passed, x.seg ≠ y.seg

/-- The state after hardware reset meets every invariant. -/
def Obligations.ResetMeetsEveryInvariant : Prop :=
  ∀ (rate : Fin 4) (pins : Vector PressPins 4) (cs : List Instr),
    let s := State.afterReset rate pins cs
    s.RangesOk ∧ s.fd.QueueOk ∧ s.su.TablesOk ∧ s.PlacesOk ∧ s.StandsOk ∧ s.LocksOk
end

