-- ==== Sys2Proof/Laws/State.lean ====
section
/-! SUPPORT. What each named update of the state does to each field: one lemma a field, true by definition. -/

namespace Sys2Proof.Machine

@[simp] theorem State.setStand_clk (s : State) (st : Stand) (r : StandRec) : (s.setStand st r).clk = s.clk := rfl
@[simp] theorem State.setStand_pins (s : State) (st : Stand) (r : StandRec) : (s.setStand st r).pins = s.pins := rfl
@[simp] theorem State.setStand_nu (s : State) (st : Stand) (r : StandRec) : (s.setStand st r).nu = s.nu := rfl
@[simp] theorem State.setStand_su (s : State) (st : Stand) (r : StandRec) : (s.setStand st r).su = s.su := rfl
@[simp] theorem State.setStand_pju (s : State) (st : Stand) (r : StandRec) : (s.setStand st r).pju = s.pju := rfl
@[simp] theorem State.setStand_ssq (s : State) (st : Stand) (r : StandRec) : (s.setStand st r).ssq = s.ssq.set st r := rfl
@[simp] theorem State.setStand_fp (s : State) (st : Stand) (r : StandRec) : (s.setStand st r).fp = s.fp := rfl
@[simp] theorem State.setStand_fd (s : State) (st : Stand) (r : StandRec) : (s.setStand st r).fd = s.fd := rfl
@[simp] theorem State.setStand_lu (s : State) (st : Stand) (r : StandRec) : (s.setStand st r).lu = s.lu := rfl
@[simp] theorem State.setStand_fl (s : State) (st : Stand) (r : StandRec) : (s.setStand st r).fl = s.fl := rfl
@[simp] theorem State.setStand_cu (s : State) (st : Stand) (r : StandRec) : (s.setStand st r).cu = s.cu := rfl
@[simp] theorem State.setStand_clp (s : State) (st : Stand) (r : StandRec) : (s.setStand st r).clp = s.clp := rfl
@[simp] theorem State.setStand_inbox (s : State) (st : Stand) (r : StandRec) : (s.setStand st r).inbox = s.inbox := rfl
@[simp] theorem State.setStand_pending (s : State) (st : Stand) (r : StandRec) :
    (s.setStand st r).pending = s.pending := rfl

@[simp] theorem State.modStand_clk (s : State) (st : Stand) (f : StandRec → StandRec) :
    (s.modStand st f).clk = s.clk := rfl
@[simp] theorem State.modStand_pins (s : State) (st : Stand) (f : StandRec → StandRec) :
    (s.modStand st f).pins = s.pins := rfl
@[simp] theorem State.modStand_nu (s : State) (st : Stand) (f : StandRec → StandRec) : (s.modStand st f).nu = s.nu := rfl
@[simp] theorem State.modStand_su (s : State) (st : Stand) (f : StandRec → StandRec) : (s.modStand st f).su = s.su := rfl
@[simp] theorem State.modStand_pju (s : State) (st : Stand) (f : StandRec → StandRec) :
    (s.modStand st f).pju = s.pju := rfl
@[simp] theorem State.modStand_ssq (s : State) (st : Stand) (f : StandRec → StandRec) :
    (s.modStand st f).ssq = s.ssq.set st (f s.ssq[st]) := rfl
@[simp] theorem State.modStand_fp (s : State) (st : Stand) (f : StandRec → StandRec) : (s.modStand st f).fp = s.fp := rfl
@[simp] theorem State.modStand_fd (s : State) (st : Stand) (f : StandRec → StandRec) : (s.modStand st f).fd = s.fd := rfl
@[simp] theorem State.modStand_lu (s : State) (st : Stand) (f : StandRec → StandRec) : (s.modStand st f).lu = s.lu := rfl
@[simp] theorem State.modStand_fl (s : State) (st : Stand) (f : StandRec → StandRec) : (s.modStand st f).fl = s.fl := rfl
@[simp] theorem State.modStand_cu (s : State) (st : Stand) (f : StandRec → StandRec) : (s.modStand st f).cu = s.cu := rfl
@[simp] theorem State.modStand_clp (s : State) (st : Stand) (f : StandRec → StandRec) :
    (s.modStand st f).clp = s.clp := rfl
@[simp] theorem State.modStand_inbox (s : State) (st : Stand) (f : StandRec → StandRec) :
    (s.modStand st f).inbox = s.inbox := rfl
@[simp] theorem State.modStand_pending (s : State) (st : Stand) (f : StandRec → StandRec) :
    (s.modStand st f).pending = s.pending := rfl

@[simp] theorem State.setProj_clk (s : State) (st : Stand) (r : StandProj) : (s.setProj st r).clk = s.clk := rfl
@[simp] theorem State.setProj_pins (s : State) (st : Stand) (r : StandProj) : (s.setProj st r).pins = s.pins := rfl
@[simp] theorem State.setProj_nu (s : State) (st : Stand) (r : StandProj) : (s.setProj st r).nu = s.nu := rfl
@[simp] theorem State.setProj_su (s : State) (st : Stand) (r : StandProj) : (s.setProj st r).su = s.su := rfl
@[simp] theorem State.setProj_pju (s : State) (st : Stand) (r : StandProj) :
    (s.setProj st r).pju = { s.pju with stand := s.pju.stand.set st r } := rfl
@[simp] theorem State.setProj_ssq (s : State) (st : Stand) (r : StandProj) : (s.setProj st r).ssq = s.ssq := rfl
@[simp] theorem State.setProj_fp (s : State) (st : Stand) (r : StandProj) : (s.setProj st r).fp = s.fp := rfl
@[simp] theorem State.setProj_fd (s : State) (st : Stand) (r : StandProj) : (s.setProj st r).fd = s.fd := rfl
@[simp] theorem State.setProj_lu (s : State) (st : Stand) (r : StandProj) : (s.setProj st r).lu = s.lu := rfl
@[simp] theorem State.setProj_fl (s : State) (st : Stand) (r : StandProj) : (s.setProj st r).fl = s.fl := rfl
@[simp] theorem State.setProj_cu (s : State) (st : Stand) (r : StandProj) : (s.setProj st r).cu = s.cu := rfl
@[simp] theorem State.setProj_clp (s : State) (st : Stand) (r : StandProj) : (s.setProj st r).clp = s.clp := rfl
@[simp] theorem State.setProj_inbox (s : State) (st : Stand) (r : StandProj) : (s.setProj st r).inbox = s.inbox := rfl
@[simp] theorem State.setProj_pending (s : State) (st : Stand) (r : StandProj) :
    (s.setProj st r).pending = s.pending := rfl

@[simp] theorem State.modProj_clk (s : State) (st : Stand) (f : StandProj → StandProj) :
    (s.modProj st f).clk = s.clk := rfl
@[simp] theorem State.modProj_pins (s : State) (st : Stand) (f : StandProj → StandProj) :
    (s.modProj st f).pins = s.pins := rfl
@[simp] theorem State.modProj_nu (s : State) (st : Stand) (f : StandProj → StandProj) : (s.modProj st f).nu = s.nu := rfl
@[simp] theorem State.modProj_su (s : State) (st : Stand) (f : StandProj → StandProj) : (s.modProj st f).su = s.su := rfl
@[simp] theorem State.modProj_pju (s : State) (st : Stand) (f : StandProj → StandProj) :
    (s.modProj st f).pju = { s.pju with stand := s.pju.stand.set st (f s.pju.stand[st]) } := rfl
@[simp] theorem State.modProj_ssq (s : State) (st : Stand) (f : StandProj → StandProj) :
    (s.modProj st f).ssq = s.ssq := rfl
@[simp] theorem State.modProj_fp (s : State) (st : Stand) (f : StandProj → StandProj) : (s.modProj st f).fp = s.fp := rfl
@[simp] theorem State.modProj_fd (s : State) (st : Stand) (f : StandProj → StandProj) : (s.modProj st f).fd = s.fd := rfl
@[simp] theorem State.modProj_lu (s : State) (st : Stand) (f : StandProj → StandProj) : (s.modProj st f).lu = s.lu := rfl
@[simp] theorem State.modProj_fl (s : State) (st : Stand) (f : StandProj → StandProj) : (s.modProj st f).fl = s.fl := rfl
@[simp] theorem State.modProj_cu (s : State) (st : Stand) (f : StandProj → StandProj) : (s.modProj st f).cu = s.cu := rfl
@[simp] theorem State.modProj_clp (s : State) (st : Stand) (f : StandProj → StandProj) :
    (s.modProj st f).clp = s.clp := rfl
@[simp] theorem State.modProj_inbox (s : State) (st : Stand) (f : StandProj → StandProj) :
    (s.modProj st f).inbox = s.inbox := rfl
@[simp] theorem State.modProj_pending (s : State) (st : Stand) (f : StandProj → StandProj) :
    (s.modProj st f).pending = s.pending := rfl

@[simp] theorem State.setPressProj_clk (s : State) (p : Press) (r : PressProj) : (s.setPressProj p r).clk = s.clk := rfl
@[simp] theorem State.setPressProj_pins (s : State) (p : Press) (r : PressProj) :
    (s.setPressProj p r).pins = s.pins := rfl
@[simp] theorem State.setPressProj_nu (s : State) (p : Press) (r : PressProj) : (s.setPressProj p r).nu = s.nu := rfl
@[simp] theorem State.setPressProj_su (s : State) (p : Press) (r : PressProj) : (s.setPressProj p r).su = s.su := rfl
@[simp] theorem State.setPressProj_pju (s : State) (p : Press) (r : PressProj) :
    (s.setPressProj p r).pju = { s.pju with press := s.pju.press.set p r } := rfl
@[simp] theorem State.setPressProj_ssq (s : State) (p : Press) (r : PressProj) : (s.setPressProj p r).ssq = s.ssq := rfl
@[simp] theorem State.setPressProj_fp (s : State) (p : Press) (r : PressProj) : (s.setPressProj p r).fp = s.fp := rfl
@[simp] theorem State.setPressProj_fd (s : State) (p : Press) (r : PressProj) : (s.setPressProj p r).fd = s.fd := rfl
@[simp] theorem State.setPressProj_lu (s : State) (p : Press) (r : PressProj) : (s.setPressProj p r).lu = s.lu := rfl
@[simp] theorem State.setPressProj_fl (s : State) (p : Press) (r : PressProj) : (s.setPressProj p r).fl = s.fl := rfl
@[simp] theorem State.setPressProj_cu (s : State) (p : Press) (r : PressProj) : (s.setPressProj p r).cu = s.cu := rfl
@[simp] theorem State.setPressProj_clp (s : State) (p : Press) (r : PressProj) : (s.setPressProj p r).clp = s.clp := rfl
@[simp] theorem State.setPressProj_inbox (s : State) (p : Press) (r : PressProj) :
    (s.setPressProj p r).inbox = s.inbox := rfl
@[simp] theorem State.setPressProj_pending (s : State) (p : Press) (r : PressProj) :
    (s.setPressProj p r).pending = s.pending := rfl

@[simp] theorem State.setDelivery_clk (s : State) (st : Stand) (r : Delivery) : (s.setDelivery st r).clk = s.clk := rfl
@[simp] theorem State.setDelivery_pins (s : State) (st : Stand) (r : Delivery) : (s.setDelivery st r).pins = s.pins := rfl
@[simp] theorem State.setDelivery_nu (s : State) (st : Stand) (r : Delivery) : (s.setDelivery st r).nu = s.nu := rfl
@[simp] theorem State.setDelivery_su (s : State) (st : Stand) (r : Delivery) : (s.setDelivery st r).su = s.su := rfl
@[simp] theorem State.setDelivery_pju (s : State) (st : Stand) (r : Delivery) : (s.setDelivery st r).pju = s.pju := rfl
@[simp] theorem State.setDelivery_ssq (s : State) (st : Stand) (r : Delivery) : (s.setDelivery st r).ssq = s.ssq := rfl
@[simp] theorem State.setDelivery_fp (s : State) (st : Stand) (r : Delivery) :
    (s.setDelivery st r).fp = { s.fp with stands := s.fp.stands.set st r } := rfl
@[simp] theorem State.setDelivery_fd (s : State) (st : Stand) (r : Delivery) : (s.setDelivery st r).fd = s.fd := rfl
@[simp] theorem State.setDelivery_lu (s : State) (st : Stand) (r : Delivery) : (s.setDelivery st r).lu = s.lu := rfl
@[simp] theorem State.setDelivery_fl (s : State) (st : Stand) (r : Delivery) : (s.setDelivery st r).fl = s.fl := rfl
@[simp] theorem State.setDelivery_cu (s : State) (st : Stand) (r : Delivery) : (s.setDelivery st r).cu = s.cu := rfl
@[simp] theorem State.setDelivery_clp (s : State) (st : Stand) (r : Delivery) : (s.setDelivery st r).clp = s.clp := rfl
@[simp] theorem State.setDelivery_inbox (s : State) (st : Stand) (r : Delivery) :
    (s.setDelivery st r).inbox = s.inbox := rfl
@[simp] theorem State.setDelivery_pending (s : State) (st : Stand) (r : Delivery) :
    (s.setDelivery st r).pending = s.pending := rfl

@[simp] theorem State.modDelivery_clk (s : State) (st : Stand) (f : Delivery → Delivery) :
    (s.modDelivery st f).clk = s.clk := rfl
@[simp] theorem State.modDelivery_pins (s : State) (st : Stand) (f : Delivery → Delivery) :
    (s.modDelivery st f).pins = s.pins := rfl
@[simp] theorem State.modDelivery_nu (s : State) (st : Stand) (f : Delivery → Delivery) :
    (s.modDelivery st f).nu = s.nu := rfl
@[simp] theorem State.modDelivery_su (s : State) (st : Stand) (f : Delivery → Delivery) :
    (s.modDelivery st f).su = s.su := rfl
@[simp] theorem State.modDelivery_pju (s : State) (st : Stand) (f : Delivery → Delivery) :
    (s.modDelivery st f).pju = s.pju := rfl
@[simp] theorem State.modDelivery_ssq (s : State) (st : Stand) (f : Delivery → Delivery) :
    (s.modDelivery st f).ssq = s.ssq := rfl
@[simp] theorem State.modDelivery_fp (s : State) (st : Stand) (f : Delivery → Delivery) :
    (s.modDelivery st f).fp = { s.fp with stands := s.fp.stands.set st (f s.fp.stands[st]) } := rfl
@[simp] theorem State.modDelivery_fd (s : State) (st : Stand) (f : Delivery → Delivery) :
    (s.modDelivery st f).fd = s.fd := rfl
@[simp] theorem State.modDelivery_lu (s : State) (st : Stand) (f : Delivery → Delivery) :
    (s.modDelivery st f).lu = s.lu := rfl
@[simp] theorem State.modDelivery_fl (s : State) (st : Stand) (f : Delivery → Delivery) :
    (s.modDelivery st f).fl = s.fl := rfl
@[simp] theorem State.modDelivery_cu (s : State) (st : Stand) (f : Delivery → Delivery) :
    (s.modDelivery st f).cu = s.cu := rfl
@[simp] theorem State.modDelivery_clp (s : State) (st : Stand) (f : Delivery → Delivery) :
    (s.modDelivery st f).clp = s.clp := rfl
@[simp] theorem State.modDelivery_inbox (s : State) (st : Stand) (f : Delivery → Delivery) :
    (s.modDelivery st f).inbox = s.inbox := rfl
@[simp] theorem State.modDelivery_pending (s : State) (st : Stand) (f : Delivery → Delivery) :
    (s.modDelivery st f).pending = s.pending := rfl

@[simp] theorem State.setOrders_clk (s : State) (p : Press) (r : PressOrders) : (s.setOrders p r).clk = s.clk := rfl
@[simp] theorem State.setOrders_pins (s : State) (p : Press) (r : PressOrders) : (s.setOrders p r).pins = s.pins := rfl
@[simp] theorem State.setOrders_nu (s : State) (p : Press) (r : PressOrders) : (s.setOrders p r).nu = s.nu := rfl
@[simp] theorem State.setOrders_su (s : State) (p : Press) (r : PressOrders) : (s.setOrders p r).su = s.su := rfl
@[simp] theorem State.setOrders_pju (s : State) (p : Press) (r : PressOrders) : (s.setOrders p r).pju = s.pju := rfl
@[simp] theorem State.setOrders_ssq (s : State) (p : Press) (r : PressOrders) : (s.setOrders p r).ssq = s.ssq := rfl
@[simp] theorem State.setOrders_fp (s : State) (p : Press) (r : PressOrders) :
    (s.setOrders p r).fp = { s.fp with presses := s.fp.presses.set p r } := rfl
@[simp] theorem State.setOrders_fd (s : State) (p : Press) (r : PressOrders) : (s.setOrders p r).fd = s.fd := rfl
@[simp] theorem State.setOrders_lu (s : State) (p : Press) (r : PressOrders) : (s.setOrders p r).lu = s.lu := rfl
@[simp] theorem State.setOrders_fl (s : State) (p : Press) (r : PressOrders) : (s.setOrders p r).fl = s.fl := rfl
@[simp] theorem State.setOrders_cu (s : State) (p : Press) (r : PressOrders) : (s.setOrders p r).cu = s.cu := rfl
@[simp] theorem State.setOrders_clp (s : State) (p : Press) (r : PressOrders) : (s.setOrders p r).clp = s.clp := rfl
@[simp] theorem State.setOrders_inbox (s : State) (p : Press) (r : PressOrders) : (s.setOrders p r).inbox = s.inbox := rfl
@[simp] theorem State.setOrders_pending (s : State) (p : Press) (r : PressOrders) :
    (s.setOrders p r).pending = s.pending := rfl

@[simp] theorem State.setVeh_clk (s : State) (v : Vehicle) (r : VehRec) : (s.setVeh v r).clk = s.clk := rfl
@[simp] theorem State.setVeh_pins (s : State) (v : Vehicle) (r : VehRec) : (s.setVeh v r).pins = s.pins := rfl
@[simp] theorem State.setVeh_nu (s : State) (v : Vehicle) (r : VehRec) : (s.setVeh v r).nu = s.nu := rfl
@[simp] theorem State.setVeh_su (s : State) (v : Vehicle) (r : VehRec) : (s.setVeh v r).su = s.su := rfl
@[simp] theorem State.setVeh_pju (s : State) (v : Vehicle) (r : VehRec) : (s.setVeh v r).pju = s.pju := rfl
@[simp] theorem State.setVeh_ssq (s : State) (v : Vehicle) (r : VehRec) : (s.setVeh v r).ssq = s.ssq := rfl
@[simp] theorem State.setVeh_fp (s : State) (v : Vehicle) (r : VehRec) : (s.setVeh v r).fp = s.fp := rfl
@[simp] theorem State.setVeh_fd (s : State) (v : Vehicle) (r : VehRec) :
    (s.setVeh v r).fd = { s.fd with vehicles := s.fd.vehicles.set v r } := rfl
@[simp] theorem State.setVeh_lu (s : State) (v : Vehicle) (r : VehRec) : (s.setVeh v r).lu = s.lu := rfl
@[simp] theorem State.setVeh_fl (s : State) (v : Vehicle) (r : VehRec) : (s.setVeh v r).fl = s.fl := rfl
@[simp] theorem State.setVeh_cu (s : State) (v : Vehicle) (r : VehRec) : (s.setVeh v r).cu = s.cu := rfl
@[simp] theorem State.setVeh_clp (s : State) (v : Vehicle) (r : VehRec) : (s.setVeh v r).clp = s.clp := rfl
@[simp] theorem State.setVeh_inbox (s : State) (v : Vehicle) (r : VehRec) : (s.setVeh v r).inbox = s.inbox := rfl
@[simp] theorem State.setVeh_pending (s : State) (v : Vehicle) (r : VehRec) : (s.setVeh v r).pending = s.pending := rfl

@[simp] theorem State.modVeh_clk (s : State) (v : Vehicle) (f : VehRec → VehRec) : (s.modVeh v f).clk = s.clk := rfl
@[simp] theorem State.modVeh_pins (s : State) (v : Vehicle) (f : VehRec → VehRec) : (s.modVeh v f).pins = s.pins := rfl
@[simp] theorem State.modVeh_nu (s : State) (v : Vehicle) (f : VehRec → VehRec) : (s.modVeh v f).nu = s.nu := rfl
@[simp] theorem State.modVeh_su (s : State) (v : Vehicle) (f : VehRec → VehRec) : (s.modVeh v f).su = s.su := rfl
@[simp] theorem State.modVeh_pju (s : State) (v : Vehicle) (f : VehRec → VehRec) : (s.modVeh v f).pju = s.pju := rfl
@[simp] theorem State.modVeh_ssq (s : State) (v : Vehicle) (f : VehRec → VehRec) : (s.modVeh v f).ssq = s.ssq := rfl
@[simp] theorem State.modVeh_fp (s : State) (v : Vehicle) (f : VehRec → VehRec) : (s.modVeh v f).fp = s.fp := rfl
@[simp] theorem State.modVeh_fd (s : State) (v : Vehicle) (f : VehRec → VehRec) :
    (s.modVeh v f).fd = { s.fd with vehicles := s.fd.vehicles.set v (f s.fd.vehicles[v]) } := rfl
@[simp] theorem State.modVeh_lu (s : State) (v : Vehicle) (f : VehRec → VehRec) : (s.modVeh v f).lu = s.lu := rfl
@[simp] theorem State.modVeh_fl (s : State) (v : Vehicle) (f : VehRec → VehRec) : (s.modVeh v f).fl = s.fl := rfl
@[simp] theorem State.modVeh_cu (s : State) (v : Vehicle) (f : VehRec → VehRec) : (s.modVeh v f).cu = s.cu := rfl
@[simp] theorem State.modVeh_clp (s : State) (v : Vehicle) (f : VehRec → VehRec) : (s.modVeh v f).clp = s.clp := rfl
@[simp] theorem State.modVeh_inbox (s : State) (v : Vehicle) (f : VehRec → VehRec) : (s.modVeh v f).inbox = s.inbox := rfl
@[simp] theorem State.modVeh_pending (s : State) (v : Vehicle) (f : VehRec → VehRec) :
    (s.modVeh v f).pending = s.pending := rfl

@[simp] theorem State.setTasks_clk (s : State) (ts : List TaskRec) : (s.setTasks ts).clk = s.clk := rfl
@[simp] theorem State.setTasks_pins (s : State) (ts : List TaskRec) : (s.setTasks ts).pins = s.pins := rfl
@[simp] theorem State.setTasks_nu (s : State) (ts : List TaskRec) : (s.setTasks ts).nu = s.nu := rfl
@[simp] theorem State.setTasks_su (s : State) (ts : List TaskRec) : (s.setTasks ts).su = s.su := rfl
@[simp] theorem State.setTasks_pju (s : State) (ts : List TaskRec) : (s.setTasks ts).pju = s.pju := rfl
@[simp] theorem State.setTasks_ssq (s : State) (ts : List TaskRec) : (s.setTasks ts).ssq = s.ssq := rfl
@[simp] theorem State.setTasks_fp (s : State) (ts : List TaskRec) : (s.setTasks ts).fp = s.fp := rfl
@[simp] theorem State.setTasks_fd (s : State) (ts : List TaskRec) : (s.setTasks ts).fd = { s.fd with tasks := ts } := rfl
@[simp] theorem State.setTasks_lu (s : State) (ts : List TaskRec) : (s.setTasks ts).lu = s.lu := rfl
@[simp] theorem State.setTasks_fl (s : State) (ts : List TaskRec) : (s.setTasks ts).fl = s.fl := rfl
@[simp] theorem State.setTasks_cu (s : State) (ts : List TaskRec) : (s.setTasks ts).cu = s.cu := rfl
@[simp] theorem State.setTasks_clp (s : State) (ts : List TaskRec) : (s.setTasks ts).clp = s.clp := rfl
@[simp] theorem State.setTasks_inbox (s : State) (ts : List TaskRec) : (s.setTasks ts).inbox = s.inbox := rfl
@[simp] theorem State.setTasks_pending (s : State) (ts : List TaskRec) : (s.setTasks ts).pending = s.pending := rfl

@[simp] theorem State.modTask_clk (s : State) (id : Nat) (f : TaskRec → TaskRec) : (s.modTask id f).clk = s.clk := rfl
@[simp] theorem State.modTask_pins (s : State) (id : Nat) (f : TaskRec → TaskRec) : (s.modTask id f).pins = s.pins := rfl
@[simp] theorem State.modTask_nu (s : State) (id : Nat) (f : TaskRec → TaskRec) : (s.modTask id f).nu = s.nu := rfl
@[simp] theorem State.modTask_su (s : State) (id : Nat) (f : TaskRec → TaskRec) : (s.modTask id f).su = s.su := rfl
@[simp] theorem State.modTask_pju (s : State) (id : Nat) (f : TaskRec → TaskRec) : (s.modTask id f).pju = s.pju := rfl
@[simp] theorem State.modTask_ssq (s : State) (id : Nat) (f : TaskRec → TaskRec) : (s.modTask id f).ssq = s.ssq := rfl
@[simp] theorem State.modTask_fp (s : State) (id : Nat) (f : TaskRec → TaskRec) : (s.modTask id f).fp = s.fp := rfl
@[simp] theorem State.modTask_fd (s : State) (id : Nat) (f : TaskRec → TaskRec) :
    (s.modTask id f).fd = { s.fd with tasks := s.fd.tasks.map (fun t => if t.id == id then f t else t) } := rfl
@[simp] theorem State.modTask_lu (s : State) (id : Nat) (f : TaskRec → TaskRec) : (s.modTask id f).lu = s.lu := rfl
@[simp] theorem State.modTask_fl (s : State) (id : Nat) (f : TaskRec → TaskRec) : (s.modTask id f).fl = s.fl := rfl
@[simp] theorem State.modTask_cu (s : State) (id : Nat) (f : TaskRec → TaskRec) : (s.modTask id f).cu = s.cu := rfl
@[simp] theorem State.modTask_clp (s : State) (id : Nat) (f : TaskRec → TaskRec) : (s.modTask id f).clp = s.clp := rfl
@[simp] theorem State.modTask_inbox (s : State) (id : Nat) (f : TaskRec → TaskRec) :
    (s.modTask id f).inbox = s.inbox := rfl
@[simp] theorem State.modTask_pending (s : State) (id : Nat) (f : TaskRec → TaskRec) :
    (s.modTask id f).pending = s.pending := rfl

@[simp] theorem State.setFleet_clk (s : State) (x : FleetState) : (s.setFleet x).clk = s.clk := rfl
@[simp] theorem State.setFleet_pins (s : State) (x : FleetState) : (s.setFleet x).pins = s.pins := rfl
@[simp] theorem State.setFleet_nu (s : State) (x : FleetState) : (s.setFleet x).nu = s.nu := rfl
@[simp] theorem State.setFleet_su (s : State) (x : FleetState) : (s.setFleet x).su = s.su := rfl
@[simp] theorem State.setFleet_pju (s : State) (x : FleetState) : (s.setFleet x).pju = s.pju := rfl
@[simp] theorem State.setFleet_ssq (s : State) (x : FleetState) : (s.setFleet x).ssq = s.ssq := rfl
@[simp] theorem State.setFleet_fp (s : State) (x : FleetState) : (s.setFleet x).fp = s.fp := rfl
@[simp] theorem State.setFleet_fd (s : State) (x : FleetState) : (s.setFleet x).fd = { s.fd with fleet := x } := rfl
@[simp] theorem State.setFleet_lu (s : State) (x : FleetState) : (s.setFleet x).lu = s.lu := rfl
@[simp] theorem State.setFleet_fl (s : State) (x : FleetState) : (s.setFleet x).fl = s.fl := rfl
@[simp] theorem State.setFleet_cu (s : State) (x : FleetState) : (s.setFleet x).cu = s.cu := rfl
@[simp] theorem State.setFleet_clp (s : State) (x : FleetState) : (s.setFleet x).clp = s.clp := rfl
@[simp] theorem State.setFleet_inbox (s : State) (x : FleetState) : (s.setFleet x).inbox = s.inbox := rfl
@[simp] theorem State.setFleet_pending (s : State) (x : FleetState) : (s.setFleet x).pending = s.pending := rfl

@[simp] theorem State.setLink_clk (s : State) (v : Vehicle) (r : LinkRec) : (s.setLink v r).clk = s.clk := rfl
@[simp] theorem State.setLink_pins (s : State) (v : Vehicle) (r : LinkRec) : (s.setLink v r).pins = s.pins := rfl
@[simp] theorem State.setLink_nu (s : State) (v : Vehicle) (r : LinkRec) : (s.setLink v r).nu = s.nu := rfl
@[simp] theorem State.setLink_su (s : State) (v : Vehicle) (r : LinkRec) : (s.setLink v r).su = s.su := rfl
@[simp] theorem State.setLink_pju (s : State) (v : Vehicle) (r : LinkRec) : (s.setLink v r).pju = s.pju := rfl
@[simp] theorem State.setLink_ssq (s : State) (v : Vehicle) (r : LinkRec) : (s.setLink v r).ssq = s.ssq := rfl
@[simp] theorem State.setLink_fp (s : State) (v : Vehicle) (r : LinkRec) : (s.setLink v r).fp = s.fp := rfl
@[simp] theorem State.setLink_fd (s : State) (v : Vehicle) (r : LinkRec) : (s.setLink v r).fd = s.fd := rfl
@[simp] theorem State.setLink_lu (s : State) (v : Vehicle) (r : LinkRec) : (s.setLink v r).lu = s.lu := rfl
@[simp] theorem State.setLink_fl (s : State) (v : Vehicle) (r : LinkRec) :
    (s.setLink v r).fl = { s.fl with links := s.fl.links.set v r } := rfl
@[simp] theorem State.setLink_cu (s : State) (v : Vehicle) (r : LinkRec) : (s.setLink v r).cu = s.cu := rfl
@[simp] theorem State.setLink_clp (s : State) (v : Vehicle) (r : LinkRec) : (s.setLink v r).clp = s.clp := rfl
@[simp] theorem State.setLink_inbox (s : State) (v : Vehicle) (r : LinkRec) : (s.setLink v r).inbox = s.inbox := rfl
@[simp] theorem State.setLink_pending (s : State) (v : Vehicle) (r : LinkRec) : (s.setLink v r).pending = s.pending := rfl

@[simp] theorem State.setLine_clk (s : State) (c : Nat) (x : Option Visit) (b : Option (List Byte)) :
    (s.setLine c x b).clk = s.clk := rfl
@[simp] theorem State.setLine_pins (s : State) (c : Nat) (x : Option Visit) (b : Option (List Byte)) :
    (s.setLine c x b).pins = s.pins := rfl
@[simp] theorem State.setLine_nu (s : State) (c : Nat) (x : Option Visit) (b : Option (List Byte)) :
    (s.setLine c x b).nu = s.nu := rfl
@[simp] theorem State.setLine_su (s : State) (c : Nat) (x : Option Visit) (b : Option (List Byte)) :
    (s.setLine c x b).su = s.su := rfl
@[simp] theorem State.setLine_pju (s : State) (c : Nat) (x : Option Visit) (b : Option (List Byte)) :
    (s.setLine c x b).pju = s.pju := rfl
@[simp] theorem State.setLine_ssq (s : State) (c : Nat) (x : Option Visit) (b : Option (List Byte)) :
    (s.setLine c x b).ssq = s.ssq := rfl
@[simp] theorem State.setLine_fp (s : State) (c : Nat) (x : Option Visit) (b : Option (List Byte)) :
    (s.setLine c x b).fp = s.fp := rfl
@[simp] theorem State.setLine_fd (s : State) (c : Nat) (x : Option Visit) (b : Option (List Byte)) :
    (s.setLine c x b).fd = s.fd := rfl
@[simp] theorem State.setLine_lu (s : State) (c : Nat) (x : Option Visit) (b : Option (List Byte)) :
    (s.setLine c x b).lu = s.lu := rfl
@[simp] theorem State.setLine_fl (s : State) (c : Nat) (x : Option Visit) (b : Option (List Byte)) :
    (s.setLine c x b).fl = { s.fl with cycle := c, visit := x, sent := b } := rfl
@[simp] theorem State.setLine_cu (s : State) (c : Nat) (x : Option Visit) (b : Option (List Byte)) :
    (s.setLine c x b).cu = s.cu := rfl
@[simp] theorem State.setLine_clp (s : State) (c : Nat) (x : Option Visit) (b : Option (List Byte)) :
    (s.setLine c x b).clp = s.clp := rfl
@[simp] theorem State.setLine_inbox (s : State) (c : Nat) (x : Option Visit) (b : Option (List Byte)) :
    (s.setLine c x b).inbox = s.inbox := rfl
@[simp] theorem State.setLine_pending (s : State) (c : Nat) (x : Option Visit) (b : Option (List Byte)) :
    (s.setLine c x b).pending = s.pending := rfl

@[simp] theorem State.setCount_clk (s : State) (p : Press) (r : CountRec) : (s.setCount p r).clk = s.clk := rfl
@[simp] theorem State.setCount_pins (s : State) (p : Press) (r : CountRec) : (s.setCount p r).pins = s.pins := rfl
@[simp] theorem State.setCount_nu (s : State) (p : Press) (r : CountRec) : (s.setCount p r).nu = s.nu := rfl
@[simp] theorem State.setCount_su (s : State) (p : Press) (r : CountRec) : (s.setCount p r).su = s.su := rfl
@[simp] theorem State.setCount_pju (s : State) (p : Press) (r : CountRec) : (s.setCount p r).pju = s.pju := rfl
@[simp] theorem State.setCount_ssq (s : State) (p : Press) (r : CountRec) : (s.setCount p r).ssq = s.ssq := rfl
@[simp] theorem State.setCount_fp (s : State) (p : Press) (r : CountRec) : (s.setCount p r).fp = s.fp := rfl
@[simp] theorem State.setCount_fd (s : State) (p : Press) (r : CountRec) : (s.setCount p r).fd = s.fd := rfl
@[simp] theorem State.setCount_lu (s : State) (p : Press) (r : CountRec) : (s.setCount p r).lu = s.lu := rfl
@[simp] theorem State.setCount_fl (s : State) (p : Press) (r : CountRec) : (s.setCount p r).fl = s.fl := rfl
@[simp] theorem State.setCount_cu (s : State) (p : Press) (r : CountRec) : (s.setCount p r).cu = s.cu.set p r := rfl
@[simp] theorem State.setCount_clp (s : State) (p : Press) (r : CountRec) : (s.setCount p r).clp = s.clp := rfl
@[simp] theorem State.setCount_inbox (s : State) (p : Press) (r : CountRec) : (s.setCount p r).inbox = s.inbox := rfl
@[simp] theorem State.setCount_pending (s : State) (p : Press) (r : CountRec) :
    (s.setCount p r).pending = s.pending := rfl

@[simp] theorem State.modCount_clk (s : State) (p : Press) (f : CountRec → CountRec) : (s.modCount p f).clk = s.clk := rfl
@[simp] theorem State.modCount_pins (s : State) (p : Press) (f : CountRec → CountRec) :
    (s.modCount p f).pins = s.pins := rfl
@[simp] theorem State.modCount_nu (s : State) (p : Press) (f : CountRec → CountRec) : (s.modCount p f).nu = s.nu := rfl
@[simp] theorem State.modCount_su (s : State) (p : Press) (f : CountRec → CountRec) : (s.modCount p f).su = s.su := rfl
@[simp] theorem State.modCount_pju (s : State) (p : Press) (f : CountRec → CountRec) : (s.modCount p f).pju = s.pju := rfl
@[simp] theorem State.modCount_ssq (s : State) (p : Press) (f : CountRec → CountRec) : (s.modCount p f).ssq = s.ssq := rfl
@[simp] theorem State.modCount_fp (s : State) (p : Press) (f : CountRec → CountRec) : (s.modCount p f).fp = s.fp := rfl
@[simp] theorem State.modCount_fd (s : State) (p : Press) (f : CountRec → CountRec) : (s.modCount p f).fd = s.fd := rfl
@[simp] theorem State.modCount_lu (s : State) (p : Press) (f : CountRec → CountRec) : (s.modCount p f).lu = s.lu := rfl
@[simp] theorem State.modCount_fl (s : State) (p : Press) (f : CountRec → CountRec) : (s.modCount p f).fl = s.fl := rfl
@[simp] theorem State.modCount_cu (s : State) (p : Press) (f : CountRec → CountRec) :
    (s.modCount p f).cu = s.cu.set p (f s.cu[p]) := rfl
@[simp] theorem State.modCount_clp (s : State) (p : Press) (f : CountRec → CountRec) : (s.modCount p f).clp = s.clp := rfl
@[simp] theorem State.modCount_inbox (s : State) (p : Press) (f : CountRec → CountRec) :
    (s.modCount p f).inbox = s.inbox := rfl
@[simp] theorem State.modCount_pending (s : State) (p : Press) (f : CountRec → CountRec) :
    (s.modCount p f).pending = s.pending := rfl

@[simp] theorem State.setStore_clk (s : State) (x : StoreUnit) : (s.setStore x).clk = s.clk := rfl
@[simp] theorem State.setStore_pins (s : State) (x : StoreUnit) : (s.setStore x).pins = s.pins := rfl
@[simp] theorem State.setStore_nu (s : State) (x : StoreUnit) : (s.setStore x).nu = s.nu := rfl
@[simp] theorem State.setStore_su (s : State) (x : StoreUnit) : (s.setStore x).su = x := rfl
@[simp] theorem State.setStore_pju (s : State) (x : StoreUnit) : (s.setStore x).pju = s.pju := rfl
@[simp] theorem State.setStore_ssq (s : State) (x : StoreUnit) : (s.setStore x).ssq = s.ssq := rfl
@[simp] theorem State.setStore_fp (s : State) (x : StoreUnit) : (s.setStore x).fp = s.fp := rfl
@[simp] theorem State.setStore_fd (s : State) (x : StoreUnit) : (s.setStore x).fd = s.fd := rfl
@[simp] theorem State.setStore_lu (s : State) (x : StoreUnit) : (s.setStore x).lu = s.lu := rfl
@[simp] theorem State.setStore_fl (s : State) (x : StoreUnit) : (s.setStore x).fl = s.fl := rfl
@[simp] theorem State.setStore_cu (s : State) (x : StoreUnit) : (s.setStore x).cu = s.cu := rfl
@[simp] theorem State.setStore_clp (s : State) (x : StoreUnit) : (s.setStore x).clp = s.clp := rfl
@[simp] theorem State.setStore_inbox (s : State) (x : StoreUnit) : (s.setStore x).inbox = s.inbox := rfl
@[simp] theorem State.setStore_pending (s : State) (x : StoreUnit) : (s.setStore x).pending = s.pending := rfl

@[simp] theorem State.modRoll_clk (s : State) (n : Nat) (f : RollRec → RollRec) : (s.modRoll n f).clk = s.clk := rfl
@[simp] theorem State.modRoll_pins (s : State) (n : Nat) (f : RollRec → RollRec) : (s.modRoll n f).pins = s.pins := rfl
@[simp] theorem State.modRoll_nu (s : State) (n : Nat) (f : RollRec → RollRec) : (s.modRoll n f).nu = s.nu := rfl
@[simp] theorem State.modRoll_su (s : State) (n : Nat) (f : RollRec → RollRec) :
    (s.modRoll n f).su = s.su.modRoll n f := rfl
@[simp] theorem State.modRoll_pju (s : State) (n : Nat) (f : RollRec → RollRec) : (s.modRoll n f).pju = s.pju := rfl
@[simp] theorem State.modRoll_ssq (s : State) (n : Nat) (f : RollRec → RollRec) : (s.modRoll n f).ssq = s.ssq := rfl
@[simp] theorem State.modRoll_fp (s : State) (n : Nat) (f : RollRec → RollRec) : (s.modRoll n f).fp = s.fp := rfl
@[simp] theorem State.modRoll_fd (s : State) (n : Nat) (f : RollRec → RollRec) : (s.modRoll n f).fd = s.fd := rfl
@[simp] theorem State.modRoll_lu (s : State) (n : Nat) (f : RollRec → RollRec) : (s.modRoll n f).lu = s.lu := rfl
@[simp] theorem State.modRoll_fl (s : State) (n : Nat) (f : RollRec → RollRec) : (s.modRoll n f).fl = s.fl := rfl
@[simp] theorem State.modRoll_cu (s : State) (n : Nat) (f : RollRec → RollRec) : (s.modRoll n f).cu = s.cu := rfl
@[simp] theorem State.modRoll_clp (s : State) (n : Nat) (f : RollRec → RollRec) : (s.modRoll n f).clp = s.clp := rfl
@[simp] theorem State.modRoll_inbox (s : State) (n : Nat) (f : RollRec → RollRec) : (s.modRoll n f).inbox = s.inbox := rfl
@[simp] theorem State.modRoll_pending (s : State) (n : Nat) (f : RollRec → RollRec) :
    (s.modRoll n f).pending = s.pending := rfl

@[simp] theorem State.setLocks_clk (s : State) (x : LockUnit) : (s.setLocks x).clk = s.clk := rfl
@[simp] theorem State.setLocks_pins (s : State) (x : LockUnit) : (s.setLocks x).pins = s.pins := rfl
@[simp] theorem State.setLocks_nu (s : State) (x : LockUnit) : (s.setLocks x).nu = s.nu := rfl
@[simp] theorem State.setLocks_su (s : State) (x : LockUnit) : (s.setLocks x).su = s.su := rfl
@[simp] theorem State.setLocks_pju (s : State) (x : LockUnit) : (s.setLocks x).pju = s.pju := rfl
@[simp] theorem State.setLocks_ssq (s : State) (x : LockUnit) : (s.setLocks x).ssq = s.ssq := rfl
@[simp] theorem State.setLocks_fp (s : State) (x : LockUnit) : (s.setLocks x).fp = s.fp := rfl
@[simp] theorem State.setLocks_fd (s : State) (x : LockUnit) : (s.setLocks x).fd = s.fd := rfl
@[simp] theorem State.setLocks_lu (s : State) (x : LockUnit) : (s.setLocks x).lu = x := rfl
@[simp] theorem State.setLocks_fl (s : State) (x : LockUnit) : (s.setLocks x).fl = s.fl := rfl
@[simp] theorem State.setLocks_cu (s : State) (x : LockUnit) : (s.setLocks x).cu = s.cu := rfl
@[simp] theorem State.setLocks_clp (s : State) (x : LockUnit) : (s.setLocks x).clp = s.clp := rfl
@[simp] theorem State.setLocks_inbox (s : State) (x : LockUnit) : (s.setLocks x).inbox = s.inbox := rfl
@[simp] theorem State.setLocks_pending (s : State) (x : LockUnit) : (s.setLocks x).pending = s.pending := rfl

@[simp] theorem State.setRun_clk (s : State) (v : Vehicle) (g : Option Granted) : (s.setRun v g).clk = s.clk := rfl
@[simp] theorem State.setRun_pins (s : State) (v : Vehicle) (g : Option Granted) : (s.setRun v g).pins = s.pins := rfl
@[simp] theorem State.setRun_nu (s : State) (v : Vehicle) (g : Option Granted) : (s.setRun v g).nu = s.nu := rfl
@[simp] theorem State.setRun_su (s : State) (v : Vehicle) (g : Option Granted) : (s.setRun v g).su = s.su := rfl
@[simp] theorem State.setRun_pju (s : State) (v : Vehicle) (g : Option Granted) : (s.setRun v g).pju = s.pju := rfl
@[simp] theorem State.setRun_ssq (s : State) (v : Vehicle) (g : Option Granted) : (s.setRun v g).ssq = s.ssq := rfl
@[simp] theorem State.setRun_fp (s : State) (v : Vehicle) (g : Option Granted) : (s.setRun v g).fp = s.fp := rfl
@[simp] theorem State.setRun_fd (s : State) (v : Vehicle) (g : Option Granted) : (s.setRun v g).fd = s.fd := rfl
@[simp] theorem State.setRun_lu (s : State) (v : Vehicle) (g : Option Granted) :
    (s.setRun v g).lu = { s.lu with runs := s.lu.runs.set v g } := rfl
@[simp] theorem State.setRun_fl (s : State) (v : Vehicle) (g : Option Granted) : (s.setRun v g).fl = s.fl := rfl
@[simp] theorem State.setRun_cu (s : State) (v : Vehicle) (g : Option Granted) : (s.setRun v g).cu = s.cu := rfl
@[simp] theorem State.setRun_clp (s : State) (v : Vehicle) (g : Option Granted) : (s.setRun v g).clp = s.clp := rfl
@[simp] theorem State.setRun_inbox (s : State) (v : Vehicle) (g : Option Granted) : (s.setRun v g).inbox = s.inbox := rfl
@[simp] theorem State.setRun_pending (s : State) (v : Vehicle) (g : Option Granted) :
    (s.setRun v g).pending = s.pending := rfl

@[simp] theorem State.setPins_clk (s : State) (p : Press) (r : PressPins) : (s.setPins p r).clk = s.clk := rfl
@[simp] theorem State.setPins_pins (s : State) (p : Press) (r : PressPins) : (s.setPins p r).pins = s.pins.set p r := rfl
@[simp] theorem State.setPins_nu (s : State) (p : Press) (r : PressPins) : (s.setPins p r).nu = s.nu := rfl
@[simp] theorem State.setPins_su (s : State) (p : Press) (r : PressPins) : (s.setPins p r).su = s.su := rfl
@[simp] theorem State.setPins_pju (s : State) (p : Press) (r : PressPins) : (s.setPins p r).pju = s.pju := rfl
@[simp] theorem State.setPins_ssq (s : State) (p : Press) (r : PressPins) : (s.setPins p r).ssq = s.ssq := rfl
@[simp] theorem State.setPins_fp (s : State) (p : Press) (r : PressPins) : (s.setPins p r).fp = s.fp := rfl
@[simp] theorem State.setPins_fd (s : State) (p : Press) (r : PressPins) : (s.setPins p r).fd = s.fd := rfl
@[simp] theorem State.setPins_lu (s : State) (p : Press) (r : PressPins) : (s.setPins p r).lu = s.lu := rfl
@[simp] theorem State.setPins_fl (s : State) (p : Press) (r : PressPins) : (s.setPins p r).fl = s.fl := rfl
@[simp] theorem State.setPins_cu (s : State) (p : Press) (r : PressPins) : (s.setPins p r).cu = s.cu := rfl
@[simp] theorem State.setPins_clp (s : State) (p : Press) (r : PressPins) : (s.setPins p r).clp = s.clp := rfl
@[simp] theorem State.setPins_inbox (s : State) (p : Press) (r : PressPins) : (s.setPins p r).inbox = s.inbox := rfl
@[simp] theorem State.setPins_pending (s : State) (p : Press) (r : PressPins) : (s.setPins p r).pending = s.pending := rfl

@[simp] theorem State.post_clk (s : State) (m : Msg) : (s.post m).clk = s.clk := rfl
@[simp] theorem State.post_pins (s : State) (m : Msg) : (s.post m).pins = s.pins := rfl
@[simp] theorem State.post_nu (s : State) (m : Msg) : (s.post m).nu = s.nu := rfl
@[simp] theorem State.post_su (s : State) (m : Msg) : (s.post m).su = s.su := rfl
@[simp] theorem State.post_pju (s : State) (m : Msg) : (s.post m).pju = s.pju := rfl
@[simp] theorem State.post_ssq (s : State) (m : Msg) : (s.post m).ssq = s.ssq := rfl
@[simp] theorem State.post_fp (s : State) (m : Msg) : (s.post m).fp = s.fp := rfl
@[simp] theorem State.post_fd (s : State) (m : Msg) : (s.post m).fd = s.fd := rfl
@[simp] theorem State.post_lu (s : State) (m : Msg) : (s.post m).lu = s.lu := rfl
@[simp] theorem State.post_fl (s : State) (m : Msg) : (s.post m).fl = s.fl := rfl
@[simp] theorem State.post_cu (s : State) (m : Msg) : (s.post m).cu = s.cu := rfl
@[simp] theorem State.post_clp (s : State) (m : Msg) : (s.post m).clp = s.clp := rfl
@[simp] theorem State.post_inbox (s : State) (m : Msg) : (s.post m).inbox = s.inbox ++ [m] := rfl
@[simp] theorem State.post_pending (s : State) (m : Msg) : (s.post m).pending = s.pending := rfl

@[simp] theorem State.postFirst_clk (s : State) (m : Msg) : (s.postFirst m).clk = s.clk := rfl
@[simp] theorem State.postFirst_pins (s : State) (m : Msg) : (s.postFirst m).pins = s.pins := rfl
@[simp] theorem State.postFirst_nu (s : State) (m : Msg) : (s.postFirst m).nu = s.nu := rfl
@[simp] theorem State.postFirst_su (s : State) (m : Msg) : (s.postFirst m).su = s.su := rfl
@[simp] theorem State.postFirst_pju (s : State) (m : Msg) : (s.postFirst m).pju = s.pju := rfl
@[simp] theorem State.postFirst_ssq (s : State) (m : Msg) : (s.postFirst m).ssq = s.ssq := rfl
@[simp] theorem State.postFirst_fp (s : State) (m : Msg) : (s.postFirst m).fp = s.fp := rfl
@[simp] theorem State.postFirst_fd (s : State) (m : Msg) : (s.postFirst m).fd = s.fd := rfl
@[simp] theorem State.postFirst_lu (s : State) (m : Msg) : (s.postFirst m).lu = s.lu := rfl
@[simp] theorem State.postFirst_fl (s : State) (m : Msg) : (s.postFirst m).fl = s.fl := rfl
@[simp] theorem State.postFirst_cu (s : State) (m : Msg) : (s.postFirst m).cu = s.cu := rfl
@[simp] theorem State.postFirst_clp (s : State) (m : Msg) : (s.postFirst m).clp = s.clp := rfl
@[simp] theorem State.postFirst_inbox (s : State) (m : Msg) : (s.postFirst m).inbox = m :: s.inbox := rfl
@[simp] theorem State.postFirst_pending (s : State) (m : Msg) : (s.postFirst m).pending = s.pending := rfl

@[simp] theorem State.pollCycle_clk (s : State) : (s.pollCycle).clk = s.clk := rfl
@[simp] theorem State.pollCycle_pins (s : State) : (s.pollCycle).pins = s.pins := rfl
@[simp] theorem State.pollCycle_nu (s : State) : (s.pollCycle).nu = s.nu := rfl
@[simp] theorem State.pollCycle_su (s : State) : (s.pollCycle).su = s.su := rfl
@[simp] theorem State.pollCycle_pju (s : State) : (s.pollCycle).pju = s.pju := rfl
@[simp] theorem State.pollCycle_ssq (s : State) : (s.pollCycle).ssq = s.ssq := rfl
@[simp] theorem State.pollCycle_fp (s : State) : (s.pollCycle).fp = s.fp := rfl
@[simp] theorem State.pollCycle_fd (s : State) : (s.pollCycle).fd = s.fd := rfl
@[simp] theorem State.pollCycle_lu (s : State) : (s.pollCycle).lu = s.lu := rfl
@[simp] theorem State.pollCycle_fl (s : State) :
    (s.pollCycle).fl = { s.fl with cycle := (s.fl.cycle + 1) % 8, links := s.fl.links.map (fun r => { r with fresh := false }) } := rfl
@[simp] theorem State.pollCycle_cu (s : State) : (s.pollCycle).cu = s.cu := rfl
@[simp] theorem State.pollCycle_clp (s : State) : (s.pollCycle).clp = s.clp := rfl
@[simp] theorem State.pollCycle_inbox (s : State) : (s.pollCycle).inbox = s.inbox := rfl
@[simp] theorem State.pollCycle_pending (s : State) : (s.pollCycle).pending = s.pending := rfl

@[simp] theorem State.spoilVisit_clk (s : State) (x : Visit) : (s.spoilVisit x).clk = s.clk := rfl
@[simp] theorem State.spoilVisit_pins (s : State) (x : Visit) : (s.spoilVisit x).pins = s.pins := rfl
@[simp] theorem State.spoilVisit_nu (s : State) (x : Visit) : (s.spoilVisit x).nu = s.nu := rfl
@[simp] theorem State.spoilVisit_su (s : State) (x : Visit) : (s.spoilVisit x).su = s.su := rfl
@[simp] theorem State.spoilVisit_pju (s : State) (x : Visit) : (s.spoilVisit x).pju = s.pju := rfl
@[simp] theorem State.spoilVisit_ssq (s : State) (x : Visit) : (s.spoilVisit x).ssq = s.ssq := rfl
@[simp] theorem State.spoilVisit_fp (s : State) (x : Visit) : (s.spoilVisit x).fp = s.fp := rfl
@[simp] theorem State.spoilVisit_fd (s : State) (x : Visit) : (s.spoilVisit x).fd = s.fd := rfl
@[simp] theorem State.spoilVisit_lu (s : State) (x : Visit) : (s.spoilVisit x).lu = s.lu := rfl
@[simp] theorem State.spoilVisit_fl (s : State) (x : Visit) :
    (s.spoilVisit x).fl = { s.fl with cycle := s.fl.cycle, visit := some { x with spoiled := true }, sent := s.fl.sent } := rfl
@[simp] theorem State.spoilVisit_cu (s : State) (x : Visit) : (s.spoilVisit x).cu = s.cu := rfl
@[simp] theorem State.spoilVisit_clp (s : State) (x : Visit) : (s.spoilVisit x).clp = s.clp := rfl
@[simp] theorem State.spoilVisit_inbox (s : State) (x : Visit) : (s.spoilVisit x).inbox = s.inbox := rfl
@[simp] theorem State.spoilVisit_pending (s : State) (x : Visit) : (s.spoilVisit x).pending = s.pending := rfl

@[simp] theorem State.markBack_clk (s : State) (v : Vehicle) : (s.markBack v).clk = s.clk := rfl
@[simp] theorem State.markBack_pins (s : State) (v : Vehicle) : (s.markBack v).pins = s.pins := rfl
@[simp] theorem State.markBack_nu (s : State) (v : Vehicle) : (s.markBack v).nu = s.nu := rfl
@[simp] theorem State.markBack_su (s : State) (v : Vehicle) : (s.markBack v).su = s.su := rfl
@[simp] theorem State.markBack_pju (s : State) (v : Vehicle) : (s.markBack v).pju = s.pju := rfl
@[simp] theorem State.markBack_ssq (s : State) (v : Vehicle) : (s.markBack v).ssq = s.ssq := rfl
@[simp] theorem State.markBack_fp (s : State) (v : Vehicle) : (s.markBack v).fp = s.fp := rfl
@[simp] theorem State.markBack_fd (s : State) (v : Vehicle) :
    (s.markBack v).fd = { s.fd with vehicles := s.fd.vehicles.set v { s.fd.vehicles[v] with backDue := true } } := rfl
@[simp] theorem State.markBack_lu (s : State) (v : Vehicle) : (s.markBack v).lu = s.lu := rfl
@[simp] theorem State.markBack_fl (s : State) (v : Vehicle) : (s.markBack v).fl = s.fl := rfl
@[simp] theorem State.markBack_cu (s : State) (v : Vehicle) : (s.markBack v).cu = s.cu := rfl
@[simp] theorem State.markBack_clp (s : State) (v : Vehicle) : (s.markBack v).clp = s.clp := rfl
@[simp] theorem State.markBack_inbox (s : State) (v : Vehicle) : (s.markBack v).inbox = s.inbox := rfl
@[simp] theorem State.markBack_pending (s : State) (v : Vehicle) : (s.markBack v).pending = s.pending := rfl

@[simp] theorem State.reply_clk (s : State) (r : Reply) : (s.reply r).clk = s.clk := rfl
@[simp] theorem State.reply_pins (s : State) (r : Reply) : (s.reply r).pins = s.pins := rfl
@[simp] theorem State.reply_nu (s : State) (r : Reply) : (s.reply r).nu = s.nu := rfl
@[simp] theorem State.reply_su (s : State) (r : Reply) : (s.reply r).su = s.su := rfl
@[simp] theorem State.reply_pju (s : State) (r : Reply) : (s.reply r).pju = s.pju := rfl
@[simp] theorem State.reply_ssq (s : State) (r : Reply) : (s.reply r).ssq = s.ssq := rfl
@[simp] theorem State.reply_fp (s : State) (r : Reply) : (s.reply r).fp = s.fp := rfl
@[simp] theorem State.reply_fd (s : State) (r : Reply) : (s.reply r).fd = s.fd := rfl
@[simp] theorem State.reply_lu (s : State) (r : Reply) : (s.reply r).lu = s.lu := rfl
@[simp] theorem State.reply_fl (s : State) (r : Reply) : (s.reply r).fl = s.fl := rfl
@[simp] theorem State.reply_cu (s : State) (r : Reply) : (s.reply r).cu = s.cu := rfl
@[simp] theorem State.reply_clp (s : State) (r : Reply) : (s.reply r).clp = { s.clp with lastReply := some r } := rfl
@[simp] theorem State.reply_inbox (s : State) (r : Reply) : (s.reply r).inbox = s.inbox := rfl
@[simp] theorem State.reply_pending (s : State) (r : Reply) : (s.reply r).pending = s.pending := rfl

@[simp] theorem State.raise_clk (s : State) (i : Fin 44) (r : Reason) : (s.raise i r).clk = s.clk := rfl
@[simp] theorem State.raise_pins (s : State) (i : Fin 44) (r : Reason) : (s.raise i r).pins = s.pins := rfl
@[simp] theorem State.raise_nu (s : State) (i : Fin 44) (r : Reason) : (s.raise i r).nu = s.nu.raise i r.bit := rfl
@[simp] theorem State.raise_su (s : State) (i : Fin 44) (r : Reason) : (s.raise i r).su = s.su := rfl
@[simp] theorem State.raise_pju (s : State) (i : Fin 44) (r : Reason) : (s.raise i r).pju = s.pju := rfl
@[simp] theorem State.raise_ssq (s : State) (i : Fin 44) (r : Reason) : (s.raise i r).ssq = s.ssq := rfl
@[simp] theorem State.raise_fp (s : State) (i : Fin 44) (r : Reason) : (s.raise i r).fp = s.fp := rfl
@[simp] theorem State.raise_fd (s : State) (i : Fin 44) (r : Reason) : (s.raise i r).fd = s.fd := rfl
@[simp] theorem State.raise_lu (s : State) (i : Fin 44) (r : Reason) : (s.raise i r).lu = s.lu := rfl
@[simp] theorem State.raise_fl (s : State) (i : Fin 44) (r : Reason) : (s.raise i r).fl = s.fl := rfl
@[simp] theorem State.raise_cu (s : State) (i : Fin 44) (r : Reason) : (s.raise i r).cu = s.cu := rfl
@[simp] theorem State.raise_clp (s : State) (i : Fin 44) (r : Reason) : (s.raise i r).clp = s.clp := rfl
@[simp] theorem State.raise_inbox (s : State) (i : Fin 44) (r : Reason) : (s.raise i r).inbox = s.inbox := rfl
@[simp] theorem State.raise_pending (s : State) (i : Fin 44) (r : Reason) : (s.raise i r).pending = s.pending := rfl

@[simp] theorem State.fetch_clk (s : State) (i : Fin 44) : (s.fetch i).clk = s.clk := rfl
@[simp] theorem State.fetch_pins (s : State) (i : Fin 44) : (s.fetch i).pins = s.pins := rfl
@[simp] theorem State.fetch_nu (s : State) (i : Fin 44) : (s.fetch i).nu = s.nu.fetch i := rfl
@[simp] theorem State.fetch_su (s : State) (i : Fin 44) : (s.fetch i).su = s.su := rfl
@[simp] theorem State.fetch_pju (s : State) (i : Fin 44) : (s.fetch i).pju = s.pju := rfl
@[simp] theorem State.fetch_ssq (s : State) (i : Fin 44) : (s.fetch i).ssq = s.ssq := rfl
@[simp] theorem State.fetch_fp (s : State) (i : Fin 44) : (s.fetch i).fp = s.fp := rfl
@[simp] theorem State.fetch_fd (s : State) (i : Fin 44) : (s.fetch i).fd = s.fd := rfl
@[simp] theorem State.fetch_lu (s : State) (i : Fin 44) : (s.fetch i).lu = s.lu := rfl
@[simp] theorem State.fetch_fl (s : State) (i : Fin 44) : (s.fetch i).fl = s.fl := rfl
@[simp] theorem State.fetch_cu (s : State) (i : Fin 44) : (s.fetch i).cu = s.cu := rfl
@[simp] theorem State.fetch_clp (s : State) (i : Fin 44) : (s.fetch i).clp = s.clp := rfl
@[simp] theorem State.fetch_inbox (s : State) (i : Fin 44) : (s.fetch i).inbox = s.inbox := rfl
@[simp] theorem State.fetch_pending (s : State) (i : Fin 44) : (s.fetch i).pending = s.pending := rfl

@[simp] theorem State.order_clk (s : State) (v : Vehicle) (o : Order) : (s.order v o).clk = s.clk := rfl
@[simp] theorem State.order_pins (s : State) (v : Vehicle) (o : Order) : (s.order v o).pins = s.pins := rfl
@[simp] theorem State.order_nu (s : State) (v : Vehicle) (o : Order) : (s.order v o).nu = s.nu := rfl
@[simp] theorem State.order_su (s : State) (v : Vehicle) (o : Order) : (s.order v o).su = s.su := rfl
@[simp] theorem State.order_pju (s : State) (v : Vehicle) (o : Order) : (s.order v o).pju = s.pju := rfl
@[simp] theorem State.order_ssq (s : State) (v : Vehicle) (o : Order) : (s.order v o).ssq = s.ssq := rfl
@[simp] theorem State.order_fp (s : State) (v : Vehicle) (o : Order) : (s.order v o).fp = s.fp := rfl
@[simp] theorem State.order_fd (s : State) (v : Vehicle) (o : Order) : (s.order v o).fd = s.fd := rfl
@[simp] theorem State.order_lu (s : State) (v : Vehicle) (o : Order) : (s.order v o).lu = s.lu := rfl
@[simp] theorem State.order_fl (s : State) (v : Vehicle) (o : Order) :
    (s.order v o).fl = { s.fl with links := s.fl.links.set v (s.fl.links[v].take o s.clk.tick s.fd.vehicles[v].power) } := rfl
@[simp] theorem State.order_cu (s : State) (v : Vehicle) (o : Order) : (s.order v o).cu = s.cu := rfl
@[simp] theorem State.order_clp (s : State) (v : Vehicle) (o : Order) : (s.order v o).clp = s.clp := rfl
@[simp] theorem State.order_inbox (s : State) (v : Vehicle) (o : Order) : (s.order v o).inbox = s.inbox := rfl
@[simp] theorem State.order_pending (s : State) (v : Vehicle) (o : Order) : (s.order v o).pending = s.pending := rfl

@[simp] theorem State.addTask_clk (s : State) (t : TaskRec) : (s.addTask t).clk = s.clk := rfl
@[simp] theorem State.addTask_pins (s : State) (t : TaskRec) : (s.addTask t).pins = s.pins := rfl
@[simp] theorem State.addTask_nu (s : State) (t : TaskRec) : (s.addTask t).nu = s.nu := rfl
@[simp] theorem State.addTask_su (s : State) (t : TaskRec) : (s.addTask t).su = s.su := rfl
@[simp] theorem State.addTask_pju (s : State) (t : TaskRec) : (s.addTask t).pju = s.pju := rfl
@[simp] theorem State.addTask_ssq (s : State) (t : TaskRec) : (s.addTask t).ssq = s.ssq := rfl
@[simp] theorem State.addTask_fp (s : State) (t : TaskRec) : (s.addTask t).fp = s.fp := rfl
@[simp] theorem State.addTask_fd (s : State) (t : TaskRec) :
    (s.addTask t).fd = { s.fd with tasks := s.fd.tasks ++ [t], lastId := t.id } := rfl
@[simp] theorem State.addTask_lu (s : State) (t : TaskRec) : (s.addTask t).lu = s.lu := rfl
@[simp] theorem State.addTask_fl (s : State) (t : TaskRec) : (s.addTask t).fl = s.fl := rfl
@[simp] theorem State.addTask_cu (s : State) (t : TaskRec) : (s.addTask t).cu = s.cu := rfl
@[simp] theorem State.addTask_clp (s : State) (t : TaskRec) : (s.addTask t).clp = s.clp := rfl
@[simp] theorem State.addTask_inbox (s : State) (t : TaskRec) : (s.addTask t).inbox = s.inbox := rfl
@[simp] theorem State.addTask_pending (s : State) (t : TaskRec) : (s.addTask t).pending = s.pending := rfl

@[simp] theorem State.bumpHall_clk (s : State) : (s.bumpHall).clk = { s.clk with hall := satSucc s.clk.hall } := rfl
@[simp] theorem State.bumpHall_pins (s : State) : (s.bumpHall).pins = s.pins := rfl
@[simp] theorem State.bumpHall_nu (s : State) : (s.bumpHall).nu = s.nu := rfl
@[simp] theorem State.bumpHall_su (s : State) : (s.bumpHall).su = s.su := rfl
@[simp] theorem State.bumpHall_pju (s : State) : (s.bumpHall).pju = s.pju := rfl
@[simp] theorem State.bumpHall_ssq (s : State) : (s.bumpHall).ssq = s.ssq := rfl
@[simp] theorem State.bumpHall_fp (s : State) : (s.bumpHall).fp = s.fp := rfl
@[simp] theorem State.bumpHall_fd (s : State) : (s.bumpHall).fd = s.fd := rfl
@[simp] theorem State.bumpHall_lu (s : State) : (s.bumpHall).lu = s.lu := rfl
@[simp] theorem State.bumpHall_fl (s : State) : (s.bumpHall).fl = s.fl := rfl
@[simp] theorem State.bumpHall_cu (s : State) : (s.bumpHall).cu = s.cu := rfl
@[simp] theorem State.bumpHall_clp (s : State) : (s.bumpHall).clp = s.clp := rfl
@[simp] theorem State.bumpHall_inbox (s : State) : (s.bumpHall).inbox = s.inbox := rfl
@[simp] theorem State.bumpHall_pending (s : State) : (s.bumpHall).pending = s.pending := rfl

@[simp] theorem State.bumpTick_clk (s : State) : (s.bumpTick).clk = { s.clk with tick := s.clk.tick + 1 } := rfl
@[simp] theorem State.bumpTick_pins (s : State) : (s.bumpTick).pins = s.pins := rfl
@[simp] theorem State.bumpTick_nu (s : State) : (s.bumpTick).nu = s.nu := rfl
@[simp] theorem State.bumpTick_su (s : State) : (s.bumpTick).su = s.su := rfl
@[simp] theorem State.bumpTick_pju (s : State) : (s.bumpTick).pju = s.pju := rfl
@[simp] theorem State.bumpTick_ssq (s : State) : (s.bumpTick).ssq = s.ssq := rfl
@[simp] theorem State.bumpTick_fp (s : State) : (s.bumpTick).fp = s.fp := rfl
@[simp] theorem State.bumpTick_fd (s : State) : (s.bumpTick).fd = s.fd := rfl
@[simp] theorem State.bumpTick_lu (s : State) : (s.bumpTick).lu = s.lu := rfl
@[simp] theorem State.bumpTick_fl (s : State) : (s.bumpTick).fl = s.fl := rfl
@[simp] theorem State.bumpTick_cu (s : State) : (s.bumpTick).cu = s.cu := rfl
@[simp] theorem State.bumpTick_clp (s : State) : (s.bumpTick).clp = s.clp := rfl
@[simp] theorem State.bumpTick_inbox (s : State) : (s.bumpTick).inbox = s.inbox := rfl
@[simp] theorem State.bumpTick_pending (s : State) : (s.bumpTick).pending = s.pending := rfl

@[simp] theorem State.dropPartial_clk (s : State) : (s.dropPartial).clk = s.clk := rfl
@[simp] theorem State.dropPartial_pins (s : State) : (s.dropPartial).pins = s.pins := rfl
@[simp] theorem State.dropPartial_nu (s : State) : (s.dropPartial).nu = s.nu := rfl
@[simp] theorem State.dropPartial_su (s : State) : (s.dropPartial).su = s.su := rfl
@[simp] theorem State.dropPartial_pju (s : State) : (s.dropPartial).pju = s.pju := rfl
@[simp] theorem State.dropPartial_ssq (s : State) : (s.dropPartial).ssq = s.ssq := rfl
@[simp] theorem State.dropPartial_fp (s : State) : (s.dropPartial).fp = s.fp := rfl
@[simp] theorem State.dropPartial_fd (s : State) : (s.dropPartial).fd = s.fd := rfl
@[simp] theorem State.dropPartial_lu (s : State) : (s.dropPartial).lu = s.lu := rfl
@[simp] theorem State.dropPartial_fl (s : State) : (s.dropPartial).fl = s.fl := rfl
@[simp] theorem State.dropPartial_cu (s : State) : (s.dropPartial).cu = s.cu := rfl
@[simp] theorem State.dropPartial_clp (s : State) : (s.dropPartial).clp = { s.clp with rx := .hunt } := rfl
@[simp] theorem State.dropPartial_inbox (s : State) : (s.dropPartial).inbox = s.inbox := rfl
@[simp] theorem State.dropPartial_pending (s : State) : (s.dropPartial).pending = s.pending := rfl

@[simp] theorem State.frameComplete_clk (s : State) (f : ClFrame) : (s.frameComplete f).clk = s.clk := rfl
@[simp] theorem State.frameComplete_pins (s : State) (f : ClFrame) : (s.frameComplete f).pins = s.pins := rfl
@[simp] theorem State.frameComplete_nu (s : State) (f : ClFrame) : (s.frameComplete f).nu = s.nu := rfl
@[simp] theorem State.frameComplete_su (s : State) (f : ClFrame) : (s.frameComplete f).su = s.su := rfl
@[simp] theorem State.frameComplete_pju (s : State) (f : ClFrame) : (s.frameComplete f).pju = s.pju := rfl
@[simp] theorem State.frameComplete_ssq (s : State) (f : ClFrame) : (s.frameComplete f).ssq = s.ssq := rfl
@[simp] theorem State.frameComplete_fp (s : State) (f : ClFrame) : (s.frameComplete f).fp = s.fp := rfl
@[simp] theorem State.frameComplete_fd (s : State) (f : ClFrame) : (s.frameComplete f).fd = s.fd := rfl
@[simp] theorem State.frameComplete_lu (s : State) (f : ClFrame) : (s.frameComplete f).lu = s.lu := rfl
@[simp] theorem State.frameComplete_fl (s : State) (f : ClFrame) : (s.frameComplete f).fl = s.fl := rfl
@[simp] theorem State.frameComplete_cu (s : State) (f : ClFrame) : (s.frameComplete f).cu = s.cu := rfl
@[simp] theorem State.frameComplete_clp (s : State) (f : ClFrame) :
    (s.frameComplete f).clp = LinePort.bufferFrame { s.clp with rx := .hunt } f := rfl
@[simp] theorem State.frameComplete_inbox (s : State) (f : ClFrame) : (s.frameComplete f).inbox = s.inbox := rfl
@[simp] theorem State.frameComplete_pending (s : State) (f : ClFrame) : (s.frameComplete f).pending = s.pending := rfl

@[simp] theorem State.answer_clk (s : State) (f : ClFrame) (r : Reply) : (s.answer f r).clk = s.clk := rfl
@[simp] theorem State.answer_pins (s : State) (f : ClFrame) (r : Reply) : (s.answer f r).pins = s.pins := rfl
@[simp] theorem State.answer_nu (s : State) (f : ClFrame) (r : Reply) : (s.answer f r).nu = s.nu := rfl
@[simp] theorem State.answer_su (s : State) (f : ClFrame) (r : Reply) : (s.answer f r).su = s.su := rfl
@[simp] theorem State.answer_pju (s : State) (f : ClFrame) (r : Reply) : (s.answer f r).pju = s.pju := rfl
@[simp] theorem State.answer_ssq (s : State) (f : ClFrame) (r : Reply) : (s.answer f r).ssq = s.ssq := rfl
@[simp] theorem State.answer_fp (s : State) (f : ClFrame) (r : Reply) : (s.answer f r).fp = s.fp := rfl
@[simp] theorem State.answer_fd (s : State) (f : ClFrame) (r : Reply) : (s.answer f r).fd = s.fd := rfl
@[simp] theorem State.answer_lu (s : State) (f : ClFrame) (r : Reply) : (s.answer f r).lu = s.lu := rfl
@[simp] theorem State.answer_fl (s : State) (f : ClFrame) (r : Reply) : (s.answer f r).fl = s.fl := rfl
@[simp] theorem State.answer_cu (s : State) (f : ClFrame) (r : Reply) : (s.answer f r).cu = s.cu := rfl
@[simp] theorem State.answer_clp (s : State) (f : ClFrame) (r : Reply) :
    (s.answer f r).clp = { s.clp with replies := s.clp.replies ++ [replyFrame f r], lastReply := some r } := rfl
@[simp] theorem State.answer_inbox (s : State) (f : ClFrame) (r : Reply) : (s.answer f r).inbox = s.inbox := rfl
@[simp] theorem State.answer_pending (s : State) (f : ClFrame) (r : Reply) : (s.answer f r).pending = s.pending := rfl

/-- A conditional raise changes the Notice Unit alone. -/
theorem State.raiseIf_eq (s : State) (c : Bool) (i : Fin 44) (r : Reason) :
    s.raiseIf c i r = { s with nu := if c then s.nu.raise i r.bit else s.nu } := by
  cases c <;> rfl

@[simp] theorem State.raiseIf_clk (s : State) (c : Bool) (i : Fin 44) (r : Reason) :
    (s.raiseIf c i r).clk = s.clk := by cases c <;> rfl
@[simp] theorem State.raiseIf_pins (s : State) (c : Bool) (i : Fin 44) (r : Reason) :
    (s.raiseIf c i r).pins = s.pins := by cases c <;> rfl
@[simp] theorem State.raiseIf_su (s : State) (c : Bool) (i : Fin 44) (r : Reason) :
    (s.raiseIf c i r).su = s.su := by cases c <;> rfl
@[simp] theorem State.raiseIf_pju (s : State) (c : Bool) (i : Fin 44) (r : Reason) :
    (s.raiseIf c i r).pju = s.pju := by cases c <;> rfl
@[simp] theorem State.raiseIf_ssq (s : State) (c : Bool) (i : Fin 44) (r : Reason) :
    (s.raiseIf c i r).ssq = s.ssq := by cases c <;> rfl
@[simp] theorem State.raiseIf_fp (s : State) (c : Bool) (i : Fin 44) (r : Reason) :
    (s.raiseIf c i r).fp = s.fp := by cases c <;> rfl
@[simp] theorem State.raiseIf_fd (s : State) (c : Bool) (i : Fin 44) (r : Reason) :
    (s.raiseIf c i r).fd = s.fd := by cases c <;> rfl
@[simp] theorem State.raiseIf_lu (s : State) (c : Bool) (i : Fin 44) (r : Reason) :
    (s.raiseIf c i r).lu = s.lu := by cases c <;> rfl
@[simp] theorem State.raiseIf_fl (s : State) (c : Bool) (i : Fin 44) (r : Reason) :
    (s.raiseIf c i r).fl = s.fl := by cases c <;> rfl
@[simp] theorem State.raiseIf_cu (s : State) (c : Bool) (i : Fin 44) (r : Reason) :
    (s.raiseIf c i r).cu = s.cu := by cases c <;> rfl
@[simp] theorem State.raiseIf_clp (s : State) (c : Bool) (i : Fin 44) (r : Reason) :
    (s.raiseIf c i r).clp = s.clp := by cases c <;> rfl
@[simp] theorem State.raiseIf_inbox (s : State) (c : Bool) (i : Fin 44) (r : Reason) :
    (s.raiseIf c i r).inbox = s.inbox := by cases c <;> rfl
@[simp] theorem State.raiseIf_pending (s : State) (c : Bool) (i : Fin 44) (r : Reason) :
    (s.raiseIf c i r).pending = s.pending := by cases c <;> rfl
@[simp] theorem State.raiseIf_nu (s : State) (c : Bool) (i : Fin 44) (r : Reason) :
    (s.raiseIf c i r).nu = if c then s.nu.raise i r.bit else s.nu := by cases c <;> rfl

@[simp] theorem VehRec.markDue_enrolled (r : VehRec) : r.markDue.enrolled = r.enrolled := rfl
@[simp] theorem VehRec.markDue_speed (r : VehRec) : r.markDue.speed = r.speed := rfl
@[simp] theorem VehRec.markDue_state (r : VehRec) : r.markDue.state = r.state := rfl
@[simp] theorem VehRec.markDue_cause (r : VehRec) : r.markDue.cause = r.cause := rfl
@[simp] theorem VehRec.markDue_halted (r : VehRec) : r.markDue.halted = r.halted := rfl
@[simp] theorem VehRec.markDue_node (r : VehRec) : r.markDue.node = r.node := rfl
@[simp] theorem VehRec.markDue_load (r : VehRec) : r.markDue.load = r.load := rfl
@[simp] theorem VehRec.markDue_task (r : VehRec) : r.markDue.task = r.task := rfl
@[simp] theorem VehRec.markDue_balance (r : VehRec) : r.markDue.balance = r.balance := rfl
@[simp] theorem VehRec.markDue_interval (r : VehRec) : r.markDue.interval = r.interval := rfl
@[simp] theorem VehRec.markDue_topUp (r : VehRec) : r.markDue.topUp = r.topUp := rfl
@[simp] theorem VehRec.markDue_barred (r : VehRec) : r.markDue.barred = r.barred := rfl
@[simp] theorem VehRec.markDue_power (r : VehRec) : r.markDue.power = r.power := rfl
@[simp] theorem VehRec.markDue_reachable (r : VehRec) : r.markDue.reachable = r.reachable := rfl
@[simp] theorem VehRec.markDue_entry (r : VehRec) : r.markDue.entry = r.entry := rfl
@[simp] theorem VehRec.markDue_passages (r : VehRec) : r.markDue.passages = r.passages := rfl
@[simp] theorem VehRec.markDue_outcome (r : VehRec) : r.markDue.outcome = r.outcome := rfl
@[simp] theorem VehRec.markDue_errorCode (r : VehRec) : r.markDue.errorCode = r.errorCode := rfl
@[simp] theorem VehRec.markDue_phase (r : VehRec) : r.markDue.phase = r.phase := rfl
@[simp] theorem VehRec.markDue_work (r : VehRec) : r.markDue.work = r.work := rfl
@[simp] theorem VehRec.markDue_expected (r : VehRec) : r.markDue.expected = r.expected := rfl
@[simp] theorem VehRec.markDue_workBegun (r : VehRec) : r.markDue.workBegun = r.workBegun := rfl
@[simp] theorem VehRec.markDue_backDue (r : VehRec) : r.markDue.backDue = r.backDue := rfl
@[simp] theorem VehRec.markDue_undocking (r : VehRec) : r.markDue.undocking = r.undocking := rfl
@[simp] theorem VehRec.markDue_homeNext (r : VehRec) : r.markDue.homeNext = r.homeNext := rfl
@[simp] theorem VehRec.markDue_delayFrom (r : VehRec) : r.markDue.delayFrom = r.delayFrom := rfl
@[simp] theorem VehRec.markDue_parkWait (r : VehRec) : r.markDue.parkWait = r.parkWait := rfl
@[simp] theorem VehRec.markDue_sleepTested (r : VehRec) : r.markDue.sleepTested = r.sleepTested := rfl
@[simp] theorem VehRec.markDue_chargeDue (r : VehRec) : r.markDue.chargeDue = (r.chargeDue || r.owesCharge) := rfl

end Sys2Proof.Machine
end

