-- ==== Sys2Proof/Laws/Frame.lean ====
section
/-! SUPPORT. What the hand-offs between blocks never change: the clock, the pins, the projection and count records, the
Control Line, the queue of commands, the Fleet Link's line and every configuration value. One lemma for each operation that a
hand-off can reach; together they say it of `State.settle`. -/

namespace Sys2Proof.Machine

/-- The configuration of the Store Unit: grades, clear time, lane depths, door limits and windows. -/
def StoreUnit.config (su : StoreUnit) : Vector Nat 16 × Nat × List Nat × Vector (Nat × Nat) 2 :=
  (su.grades, su.clearTime, su.lanes.map (·.depth), su.doors.map (fun d => (d.limit, d.window)))

/-- The parts of the state that no hand-off changes. -/
structure Frame where
  clk : HallClock
  pins : Vector PressPins 4
  pju : ProjectionUnit
  cu : Vector CountRec 4
  clp : LinePort
  pending : List Instr
  masks : Vector ReasonSet 6
  enable : Bool
  store : Vector Nat 16 × Nat × List Nat × Vector (Nat × Nat) 2
  stands : Vector (Bool × StandCfg) 24
  feed : Nat × Nat × Nat × Nat
  fleet : Nat × Nat × Nat × Nat × Nat
  vehicles : Vector (Bool × Nat × Int × Bool × Nat) 12
  nodes : Vector (Option NodeRec) 128
  segs : Vector (Option SegRec) 192
  routes : Vector (Option RouteRec) 256
  line : Nat × Option Visit × Option (List Byte)

def State.frame (s : State) : Frame :=
  { clk := s.clk, pins := s.pins, pju := s.pju, cu := s.cu, clp := s.clp, pending := s.pending
    masks := s.nu.masks, enable := s.nu.enable, store := s.su.config
    stands := s.ssq.map (fun r => (r.present, r.cfg))
    feed := (s.fp.estimate, s.fp.margin, s.fp.pickOverhead, s.fp.placeOverhead)
    fleet := (s.fd.holdTimeout, s.fd.parkDelay, s.fd.sleepDelay, s.fd.chargeInterval, s.fd.topUpPeriod)
    vehicles := s.fd.vehicles.map (fun r => (r.enrolled, r.speed, r.balance, r.barred, r.interval))
    nodes := s.lu.nodes, segs := s.lu.segs, routes := s.lu.routes
    line := (s.fl.cycle, s.fl.visit, s.fl.sent) }

/-! ## Lists and vectors -/

theorem foldl_frame {α : Type} {f : State → α → State} (h : ∀ s x, (f s x).frame = s.frame) (xs : List α) (s : State) :
    (xs.foldl f s).frame = s.frame := by
  induction xs generalizing s with
  | nil => rfl
  | cons x xs ih => simp [ih, h]

theorem map_set_same {α β : Type} {n : Nat} (v : Vector α n) (f : α → β) (i : Fin n) (x : α) (h : f x = f v[i]) :
    (v.set i x).map f = v.map f := by
  ext j hj
  simp only [Vector.getElem_map, Vector.getElem_set]
  split
  · next e => subst e; exact h
  · rfl

/-! ## Primitive updates -/

/-- Two states have the same frame when each kept part is the same. -/
theorem frame_eq {s t : State} (h1 : t.clk = s.clk) (h2 : t.pins = s.pins) (h3 : t.pju = s.pju) (h4 : t.cu = s.cu)
    (h5 : t.clp = s.clp) (h6 : t.pending = s.pending) (h7 : t.nu.masks = s.nu.masks) (h8 : t.nu.enable = s.nu.enable)
    (h9 : t.su.config = s.su.config)
    (h10 : t.ssq.map (fun r => (r.present, r.cfg)) = s.ssq.map (fun r => (r.present, r.cfg)))
    (h11 : (t.fp.estimate, t.fp.margin, t.fp.pickOverhead, t.fp.placeOverhead) =
      (s.fp.estimate, s.fp.margin, s.fp.pickOverhead, s.fp.placeOverhead))
    (h12 : (t.fd.holdTimeout, t.fd.parkDelay, t.fd.sleepDelay, t.fd.chargeInterval, t.fd.topUpPeriod) =
      (s.fd.holdTimeout, s.fd.parkDelay, s.fd.sleepDelay, s.fd.chargeInterval, s.fd.topUpPeriod))
    (h13 : t.fd.vehicles.map (fun r => (r.enrolled, r.speed, r.balance, r.barred, r.interval)) = s.fd.vehicles.map (fun r => (r.enrolled, r.speed, r.balance, r.barred, r.interval)))
    (h14 : t.lu.nodes = s.lu.nodes) (h15 : t.lu.segs = s.lu.segs) (h16 : t.lu.routes = s.lu.routes)
    (h17 : (t.fl.cycle, t.fl.visit, t.fl.sent) = (s.fl.cycle, s.fl.visit, s.fl.sent)) : t.frame = s.frame := by
  simp only [State.frame, h1, h2, h3, h4, h5, h6, h7, h8, h9, h10, h11, h12, h13, h14, h15, h16, h17]

@[simp] theorem State.modVeh_frame (s : State) (v : Vehicle) (f : VehRec → VehRec)
    (h : ∀ r, ((f r).enrolled, (f r).speed, (f r).balance, (f r).barred, (f r).interval) = (r.enrolled, r.speed, r.balance, r.barred, r.interval)) :
    (s.modVeh v f).frame = s.frame := by
  exact frame_eq rfl rfl rfl rfl rfl rfl rfl rfl rfl rfl rfl rfl (map_set_same _ (fun r : VehRec => (r.enrolled, r.speed, r.balance, r.barred, r.interval)) v _ (h _)) rfl rfl rfl rfl

@[simp] theorem State.modStand_frame (s : State) (st : Stand) (f : StandRec → StandRec)
    (h : ∀ r, ((f r).present, (f r).cfg) = (r.present, r.cfg)) :
    (s.modStand st f).frame = s.frame := by
  exact frame_eq rfl rfl rfl rfl rfl rfl rfl rfl rfl (map_set_same _ (fun r : StandRec => (r.present, r.cfg)) st _ (h _)) rfl rfl rfl rfl rfl rfl rfl

@[simp] theorem State.setDelivery_frame (s : State) (st : Stand) (r : Delivery) :
    (s.setDelivery st r).frame = s.frame := by
  exact frame_eq rfl rfl rfl rfl rfl rfl rfl rfl rfl rfl rfl rfl rfl rfl rfl rfl rfl

@[simp] theorem State.modDelivery_frame (s : State) (st : Stand) (f : Delivery → Delivery) :
    (s.modDelivery st f).frame = s.frame := by
  exact frame_eq rfl rfl rfl rfl rfl rfl rfl rfl rfl rfl rfl rfl rfl rfl rfl rfl rfl

@[simp] theorem State.setOrders_frame (s : State) (p : Press) (r : PressOrders) :
    (s.setOrders p r).frame = s.frame := by
  exact frame_eq rfl rfl rfl rfl rfl rfl rfl rfl rfl rfl rfl rfl rfl rfl rfl rfl rfl

@[simp] theorem State.setTasks_frame (s : State) (ts : List TaskRec) :
    (s.setTasks ts).frame = s.frame := by
  exact frame_eq rfl rfl rfl rfl rfl rfl rfl rfl rfl rfl rfl rfl rfl rfl rfl rfl rfl

@[simp] theorem State.modTask_frame (s : State) (id : Nat) (f : TaskRec → TaskRec) :
    (s.modTask id f).frame = s.frame := by
  exact frame_eq rfl rfl rfl rfl rfl rfl rfl rfl rfl rfl rfl rfl rfl rfl rfl rfl rfl

@[simp] theorem State.setFleet_frame (s : State) (x : FleetState) :
    (s.setFleet x).frame = s.frame := by
  exact frame_eq rfl rfl rfl rfl rfl rfl rfl rfl rfl rfl rfl rfl rfl rfl rfl rfl rfl

@[simp] theorem State.setLink_frame (s : State) (v : Vehicle) (r : LinkRec) :
    (s.setLink v r).frame = s.frame := by
  exact frame_eq rfl rfl rfl rfl rfl rfl rfl rfl rfl rfl rfl rfl rfl rfl rfl rfl rfl

@[simp] theorem State.setRun_frame (s : State) (v : Vehicle) (g : Option Granted) :
    (s.setRun v g).frame = s.frame := by
  exact frame_eq rfl rfl rfl rfl rfl rfl rfl rfl rfl rfl rfl rfl rfl rfl rfl rfl rfl

@[simp] theorem State.post_frame (s : State) (m : Msg) :
    (s.post m).frame = s.frame := by
  exact frame_eq rfl rfl rfl rfl rfl rfl rfl rfl rfl rfl rfl rfl rfl rfl rfl rfl rfl

@[simp] theorem State.postFirst_frame (s : State) (m : Msg) :
    (s.postFirst m).frame = s.frame := by
  exact frame_eq rfl rfl rfl rfl rfl rfl rfl rfl rfl rfl rfl rfl rfl rfl rfl rfl rfl

@[simp] theorem State.order_frame (s : State) (v : Vehicle) (o : Order) :
    (s.order v o).frame = s.frame := by
  exact frame_eq rfl rfl rfl rfl rfl rfl rfl rfl rfl rfl rfl rfl rfl rfl rfl rfl rfl

@[simp] theorem State.addTask_frame (s : State) (t : TaskRec) :
    (s.addTask t).frame = s.frame := by
  exact frame_eq rfl rfl rfl rfl rfl rfl rfl rfl rfl rfl rfl rfl rfl rfl rfl rfl rfl

@[simp] theorem State.setStore_frame (s : State) (su : StoreUnit) (h : su.config = s.su.config) :
    (s.setStore su).frame = s.frame := by
  exact frame_eq rfl rfl rfl rfl rfl rfl rfl rfl h rfl rfl rfl rfl rfl rfl rfl rfl

@[simp] theorem State.setLocks_frame (s : State) (lu : LockUnit)
    (h : (lu.nodes, lu.segs, lu.routes) = (s.lu.nodes, s.lu.segs, s.lu.routes)) :
    (s.setLocks lu).frame = s.frame := by
  simp only [Prod.mk.injEq] at h
  exact frame_eq rfl rfl rfl rfl rfl rfl rfl rfl rfl rfl rfl rfl rfl h.1 h.2.1 h.2.2 rfl

@[simp] theorem NoticeUnit.test_keep (nu : NoticeUnit) (i : Fin 44) :
    (nu.test i).masks = nu.masks ∧ (nu.test i).enable = nu.enable := by
  unfold NoticeUnit.test; split <;> simp [NoticeUnit.setEntry]

@[simp] theorem NoticeUnit.raise_keep (nu : NoticeUnit) (i : Fin 44) (r : ReasonSet) :
    (nu.raise i r).masks = nu.masks ∧ (nu.raise i r).enable = nu.enable := by
  unfold NoticeUnit.raise; simp [NoticeUnit.setEntry]

@[simp] theorem State.raise_frame (s : State) (i : Fin 44) (r : Reason) :
    (s.raise i r).frame = s.frame := by
  have h := NoticeUnit.raise_keep s.nu i r.bit
  exact frame_eq rfl rfl rfl rfl rfl rfl h.1 h.2 rfl rfl rfl rfl rfl rfl rfl rfl rfl

@[simp] theorem State.raiseIf_frame (s : State) (c : Bool) (i : Fin 44) (r : Reason) :
    (s.raiseIf c i r).frame = s.frame := by
  cases c <;> simp [State.raiseIf]

@[simp] theorem frame_ite (c : Prop) [Decidable c] (x y : State) :
    (if c then x else y).frame = if c then x.frame else y.frame := by split <;> rfl

/-! ## Store Unit -/

theorem modify_map_same {α β : Type} (f : α → β) (g : α → α) (h : ∀ x, f (g x) = f x) (l : Nat) (xs : List α) :
    (xs.modify l g).map f = xs.map f := by
  induction xs generalizing l with
  | nil => simp
  | cons x xs ih => cases l <;> simp [h, ih]

@[simp] theorem StoreUnit.modRoll_config (su : StoreUnit) (n : Nat) (f : RollRec → RollRec) :
    (su.modRoll n f).config = su.config := by
  rfl

@[simp] theorem StoreUnit.relocate_config (su : StoreUnit) (l : Nat) (ns : List Nat) :
    (su.relocate l ns).config = su.config := by
  rfl

@[simp] theorem StoreUnit.setBay_config (su : StoreUnit) (b : Fin 8) (r : BayRec) :
    (su.setBay b r).config = su.config := by
  rfl

@[simp] theorem StoreUnit.modLane_config (su : StoreUnit) (l : Nat) (f : LaneRec → LaneRec) (h : ∀ r, (f r).depth = r.depth) :
    (su.modLane l f).config = su.config := by
  simp only [StoreUnit.config, StoreUnit.modLane, modify_map_same LaneRec.depth f h]

@[simp] theorem StoreUnit.setDoor_config (su : StoreUnit) (d : Fin 2) (r : DoorRec)
    (h : (r.limit, r.window) = (su.doors[d].limit, su.doors[d].window)) :
    (su.setDoor d r).config = su.config := by
  simp only [StoreUnit.config, StoreUnit.setDoor, map_set_same _ (fun d : DoorRec => (d.limit, d.window)) d r h]

@[simp] theorem StoreUnit.setLaneList_config (su : StoreUnit) (l : Nat) (ns : List Nat) :
    (su.setLaneList l ns).config = su.config := by
  simp [StoreUnit.setLaneList]

@[simp] theorem StoreUnit.pushLane_config (su : StoreUnit) (l n : Nat) :
    (su.pushLane l n).config = su.config := by
  simp [StoreUnit.pushLane]

@[simp] theorem StoreUnit.clearLane_config (su : StoreUnit) (t l : Nat) (v : Vehicle) :
    (su.clearLane t l v).config = su.config := by
  unfold StoreUnit.clearLane
  exact StoreUnit.modLane_config su l _ (fun r => by split <;> rfl)

@[simp] theorem StoreUnit.clearLanesOf_config (su : StoreUnit) (t : Nat) (v : Vehicle) :
    (su.clearLanesOf t v).config = su.config := by
  simp only [StoreUnit.config, StoreUnit.clearLanesOf, List.map_map]
  congr 3
  apply List.map_congr_left
  intro r _
  simp only [Function.comp]
  split <;> rfl

@[simp] theorem StoreUnit.leavePassages_config (su : StoreUnit) (v : Vehicle) :
    (su.leavePassages v).config = su.config := by
  simp only [StoreUnit.config, StoreUnit.leavePassages, Vector.map_map]
  rfl

@[simp] theorem StoreUnit.openLane_config (su : StoreUnit) (l : Nat) (v : Vehicle) (p : Purpose) :
    (su.openLane l v p).1.config = su.config := by
  unfold StoreUnit.openLane
  repeat' split
  all_goals simp

theorem StoreUnit.liftLane_config {su su1 : StoreUnit} {v : Vehicle} {l n : Nat}
    (h : su.liftLane v l n = some su1) : su1.config = su.config := by
  unfold StoreUnit.liftLane at h
  repeat' split at h
  all_goals first
    | contradiction
    | (simp only [Option.some.injEq] at h; subst h; simp)

theorem StoreUnit.liftBay_config {su su1 : StoreUnit} {v : Vehicle} {b : Fin 8} {n : Nat}
    (h : su.liftBay v b n = some su1) : su1.config = su.config := by
  unfold StoreUnit.liftBay at h
  repeat' split at h
  all_goals first
    | contradiction
    | (simp only [Option.some.injEq] at h; subst h; simp)

theorem StoreUnit.placeLane_config {su su1 : StoreUnit} {now : Nat} {v : Vehicle} {l n : Nat}
    (h : su.placeLane now v l n = some su1) : su1.config = su.config := by
  unfold StoreUnit.placeLane at h
  repeat' split at h
  all_goals first
    | contradiction
    | (simp only [Option.some.injEq] at h; subst h; simp)

theorem StoreUnit.placeBay_config {su su1 : StoreUnit} {now : Nat} {v : Vehicle} {k : Option Nat} {b : Fin 8} {n : Nat}
    (h : su.placeBay now v k b n = some su1) : su1.config = su.config := by
  unfold StoreUnit.placeBay at h
  repeat' split at h
  all_goals first
    | contradiction
    | (simp only [Option.some.injEq] at h; subst h; simp)

theorem StoreUnit.placeStand_config {su su1 : StoreUnit} {v : Vehicle} {st : Stand} {arm : Arm} {n : Nat}
    (h : su.placeStand v st arm n = some su1) : su1.config = su.config := by
  unfold StoreUnit.placeStand at h
  repeat' split at h
  all_goals first
    | contradiction
    | (simp only [Option.some.injEq] at h; subst h; simp)

theorem StoreUnit.reserveRoll_config {su su1 : StoreUnit} {n : Nat} {st : Stand}
    (h : su.reserveRoll n st = some su1) : su1.config = su.config := by
  unfold StoreUnit.reserveRoll at h
  repeat' split at h
  all_goals first
    | contradiction
    | (simp only [Option.some.injEq] at h; subst h; simp)

theorem StoreUnit.reserveBay_config {su su1 : StoreUnit} {b : Fin 8} {k : Nat}
    (h : su.reserveBay b k = some su1) : su1.config = su.config := by
  unfold StoreUnit.reserveBay at h
  repeat' split at h
  all_goals first
    | contradiction
    | (simp only [Option.some.injEq] at h; subst h; simp)

@[simp] theorem State.modRoll_frame (s : State) (n : Nat) (f : RollRec → RollRec) : (s.modRoll n f).frame = s.frame := by
  simp [State.modRoll]

@[simp] theorem State.placedReady_frame (s : State) (n : Nat) :
    (s.placedReady n).frame = s.frame := by
  unfold State.placedReady
  repeat' split
  all_goals simp

@[simp] theorem State.clearReservation_frame (s : State) (n : Nat) (st : Stand) :
    (s.clearReservation n st).frame = s.frame := by
  unfold State.clearReservation
  repeat' split
  all_goals simp

@[simp] theorem State.releaseBay_frame (s : State) (b : Fin 8) (k : Nat) :
    (s.releaseBay b k).frame = s.frame := by
  unfold State.releaseBay
  repeat' split
  all_goals simp

@[simp] theorem State.cancelReservation_frame (s : State) (n : Nat) :
    (s.cancelReservation n).frame = s.frame := by
  unfold State.cancelReservation
  repeat' split
  all_goals simp

@[simp] theorem State.suspectLane_frame (s : State) (l : Nat) (t : Tag) :
    (s.suspectLane l t).frame = s.frame := by
  unfold State.suspectLane
  repeat' split
  all_goals simp

@[simp] theorem State.suspectBay_frame (s : State) (b : Fin 8) (t : Tag) :
    (s.suspectBay b t).frame = s.frame := by
  unfold State.suspectBay
  repeat' split
  all_goals simp

@[simp] theorem State.checkRead_frame (s : State) (l : Nat) (t : Tag) :
    (s.checkRead l t).frame = s.frame := by
  unfold State.checkRead
  repeat' split
  all_goals simp

/-! ## Doors -/

@[simp] theorem DoorRec.examine_keep (d : DoorRec) (t : Nat) :
    (d.examine t).limit = d.limit ∧ (d.examine t).window = d.window := ⟨rfl, rfl⟩

@[simp] theorem DoorRec.permit_keep (d : DoorRec) (t : Nat) (v : Vehicle) :
    (d.permit t v).limit = d.limit ∧ (d.permit t v).window = d.window := ⟨rfl, rfl⟩

@[simp] theorem DoorRec.await_keep (d : DoorRec) (v : Vehicle) :
    (d.await v).limit = d.limit ∧ (d.await v).window = d.window := by
  unfold DoorRec.await; split <;> exact ⟨rfl, rfl⟩

@[simp] theorem DoorRec.leave_keep (d : DoorRec) (v : Vehicle) :
    (d.leave v).limit = d.limit ∧ (d.leave v).window = d.window := ⟨rfl, rfl⟩

@[simp] theorem DoorRec.withdraw_keep (d : DoorRec) (t : Nat) (v : Vehicle) :
    (d.withdraw t v).limit = d.limit ∧ (d.withdraw t v).window = d.window := ⟨rfl, rfl⟩

@[simp] theorem DoorRec.pass_keep (d : DoorRec) (v : Vehicle) :
    (d.pass v).limit = d.limit ∧ (d.pass v).window = d.window := ⟨rfl, rfl⟩

@[simp] theorem State.askDoor_frame (s : State) (d : Fin 2) (v : Vehicle) :
    (s.askDoor d v).1.frame = s.frame := by
  unfold State.askDoor
  try dsimp only
  repeat' split
  all_goals simp

@[simp] theorem State.leaveDoorWait_frame (s : State) (v : Vehicle) (d : Fin 2) :
    (s.leaveDoorWait v d).frame = s.frame := by
  unfold State.leaveDoorWait
  try dsimp only
  repeat' split
  all_goals simp

@[simp] theorem State.secondDoor_frame (s : State) (d : Fin 2) :
    (s.secondDoor d).frame = s.frame := by
  unfold State.secondDoor
  try dsimp only
  repeat' split
  all_goals simp

/-! ## Stand Sequencer -/

@[simp] theorem State.handStand_frame (s : State) (st : Stand) :
    (s.handStand st).frame = s.frame := by
  simp [State.handStand]

@[simp] theorem State.handChange_frame (s : State) (st : Stand) (old : StandRec) :
    (s.handChange st old).frame = s.frame := by
  unfold State.handChange
  try dsimp only
  repeat' split
  all_goals simp

@[simp] theorem State.placeBegin_frame (s : State) (st : Stand) (v : Vehicle) :
    (s.placeBegin st v).1.frame = s.frame := by
  unfold State.placeBegin
  dsimp only
  repeat' split
  all_goals simp

@[simp] theorem StandRec.setArm_keep (r : StandRec) (x : Arm) (n : Option Nat) :
    (r.setArm x n).present = r.present ∧ (r.setArm x n).cfg = r.cfg := by cases x <;> exact ⟨rfl, rfl⟩

@[simp] theorem StandRec.endPlace_keep (r : StandRec) : r.endPlace.present = r.present ∧ r.endPlace.cfg = r.cfg :=
  ⟨rfl, rfl⟩

@[simp] theorem State.placedAt_frame (s : State) (st : Stand) (v : Vehicle) (n : Nat) :
    (s.placedAt st v n).1.frame = s.frame := by
  unfold State.placedAt
  dsimp only
  split
  · split
    · next su h => simp [StoreUnit.placeStand_config h]
    · simp
  · rfl

@[simp] theorem State.placeEnded_frame (s : State) (st : Stand) (v : Vehicle) :
    (s.placeEnded st v).frame = s.frame := by
  unfold State.placeEnded
  try dsimp only
  repeat' split
  all_goals simp

/-! ## Lock Unit -/

theorem LockUnit.foldl_seg {α : Type} (g : α → Seg) (o : Option Vehicle) (xs : List α) (lu : LockUnit) :
    let l := xs.foldl (fun l x => l.setSegLock (g x) o) lu
    (l.nodes, l.segs, l.routes) = (lu.nodes, lu.segs, lu.routes) := by
  induction xs generalizing lu with
  | nil => rfl
  | cons x xs ih => exact ih _

@[simp] theorem State.withdrawRun_frame (s : State) (v : Vehicle) :
    (s.withdrawRun v).frame = s.frame := by
  unfold State.withdrawRun
  split
  · rw [foldl_frame (fun s d => State.leaveDoorWait_frame s v d)]; simp [LockUnit.dropWait]
  · rfl

@[simp] theorem State.askDoors_frame (s : State) (v : Vehicle) (asked ds : List (Fin 2)) :
    (s.askDoors v asked ds).1.frame = s.frame := by
  induction ds generalizing s asked with
  | nil => rfl
  | cons d ds ih =>
    have h := State.askDoor_frame s d v
    unfold State.askDoors
    split
    · next s1 e => rw [e] at h; rw [ih]; exact h
    · next s1 e =>
      rw [e] at h
      exact (foldl_frame (f := fun s k => s.setStore (s.su.setDoor k (s.su.doors[k].withdraw s.clk.hall v)))
        (fun s k => State.setStore_frame _ _ (StoreUnit.setDoor_config _ _ _ rfl)) asked s1).trans h

theorem LockUnit.grant_plan (lu : LockUnit) (v : Vehicle) (r : Run) :
    ((lu.grant v r).nodes, (lu.grant v r).segs, (lu.grant v r).routes) = (lu.nodes, lu.segs, lu.routes) :=
  LockUnit.foldl_seg _ _ _ lu

@[simp] theorem State.grantDoors_frame (s : State) (e : WaitEntry) (o : Bool) :
    (s.grantDoors e o).1.frame = s.frame := by
  have h := State.askDoors_frame s e.veh [] e.doors
  unfold State.grantDoors
  split
  · next s1 d eq =>
    rw [eq] at h
    cases e.lane <;> cases o <;> simpa using h
  · next s1 eq =>
    rw [eq] at h
    simpa [LockUnit.grant_plan] using h

@[simp] theorem State.tryGrant_frame (s : State) (e : WaitEntry) :
    (s.tryGrant e).1.frame = s.frame := by
  unfold State.tryGrant
  split
  · rfl
  · split
    · simp
    · next l _ =>
      have h := StoreUnit.openLane_config s.su l e.veh e.purpose
      split
      · rfl
      · rfl
      · next su eq => rw [eq] at h; simp [State.setStore_frame s su h]

@[simp] theorem State.examineOne_frame (s : State) (e : WaitEntry) :
    (s.examineOne e).frame = s.frame := by
  have h := State.tryGrant_frame s e
  unfold State.examineOne
  split
  · next s1 eq => rw [eq] at h; exact h
  · next s1 eq => rw [eq] at h; simpa using h
  · next s1 x eq => rw [eq] at h; simpa [LockUnit.modWait] using h

@[simp] theorem State.sendDetour_frame (s : State) (e : WaitEntry) (r : Run) :
    (s.sendDetour e r).frame = s.frame := by
  unfold State.sendDetour
  dsimp only
  split
  · next s2 eq => have h := congrArg (fun p => p.1.frame) eq; simp at h; simp [← h]
  · next s2 a _ eq =>
    have h := congrArg (fun p => p.1.frame) eq
    simp at h
    simp [← h, LockUnit.putWait, LockUnit.dropWait]

@[simp] theorem State.testPair_frame (s : State) (p : Vehicle × Vehicle) :
    (s.testPair p).frame = s.frame := by
  unfold State.testPair
  repeat' split
  all_goals (try dsimp only)
  all_goals (repeat' split)
  all_goals simp

@[simp] theorem State.examine_frame (s : State) :
    (s.examine).frame = s.frame := by
  unfold State.examine
  dsimp only
  rw [foldl_frame State.testPair_frame, foldl_frame State.examineOne_frame]

@[simp] theorem State.runRequest_frame (s : State) (v : Vehicle) (k : Route) (p : Option Purpose) (d : Option Nat) :
    (s.runRequest v k p d).1.frame = s.frame := by
  unfold State.runRequest
  repeat' split
  all_goals simp [LockUnit.putWait, LockUnit.dropWait]

@[simp] theorem State.waitDeadline_frame (s : State) (v : Vehicle) (d : Option Nat) :
    (s.waitDeadline v d).frame = s.frame := by
  simp [State.waitDeadline, LockUnit.modWait]

theorem foldl_doors (v : Vehicle) (ds : List (Fin 2)) (su : StoreUnit) :
    (ds.foldl (fun su d => su.setDoor d (su.doors[d].pass v)) su).config = su.config := by
  induction ds generalizing su with
  | nil => rfl
  | cons d ds ih => rw [List.foldl_cons, ih]; exact StoreUnit.setDoor_config _ _ _ rfl

@[simp] theorem State.passTo_frame (s : State) (v : Vehicle) (g : Granted) (j : Nat) (n : Node) :
    (s.passTo v g j n).frame = s.frame := by
  have h := LockUnit.foldl_seg (fun x : RunSeg => x.seg) none ((g.run.segs.take j).drop g.passed) s.lu
  refine (State.post_frame _ _).trans ((State.setStore_frame _ _ ?_).trans (State.setLocks_frame _ _ ?_))
  · exact foldl_doors v _ _
  · dsimp only at h ⊢
    split <;> simpa [LockUnit.setNodeLock] using h

@[simp] theorem State.nodeReport_frame (s : State) (v : Vehicle) (n : Node) :
    (s.nodeReport v n).1.frame = s.frame := by
  unfold State.nodeReport
  repeat' split
  all_goals (try dsimp only)
  all_goals simp

@[simp] theorem State.releaseVehicle_frame (s : State) (v : Vehicle) :
    (s.releaseVehicle v).frame = s.frame := by
  exact (State.post_frame _ _).trans ((State.setStore_frame _ _ (by simp)).trans
    ((State.setLocks_frame _ _ rfl).trans (State.withdrawRun_frame s v)))

@[simp] theorem State.claimNode_frame (s : State) (v : Vehicle) (n : Node) :
    (s.claimNode v n).1.frame = s.frame := by
  unfold State.claimNode
  repeat' split
  all_goals simp [LockUnit.setNodeLock]

@[simp] theorem State.releaseNode_frame (s : State) (v : Vehicle) :
    (s.releaseNode v).frame = s.frame := by
  simp [State.releaseNode]

@[simp] theorem State.fleetStopCheck_frame (s : State) :
    (s.fleetStopCheck).frame = s.frame := by
  unfold State.fleetStopCheck
  split <;> simp

@[simp] theorem State.holdTimeout_frame (s : State) (v : Vehicle) :
    (s.holdTimeout v).frame = s.frame := by
  unfold State.holdTimeout
  repeat' split
  all_goals simp [LockUnit.modWait]

/-! ## Fleet Dispatcher: tasks and the work of a vehicle -/

@[simp] theorem VehRec.enter_keep (r : VehRec) (x : VehState) (now : Nat) :
    (r.enter x now).enrolled = r.enrolled ∧ (r.enter x now).speed = r.speed ∧ (r.enter x now).balance = r.balance ∧
      (r.enter x now).barred = r.barred ∧ (r.enter x now).interval = r.interval := by
  unfold VehRec.enter; split <;> exact ⟨rfl, rfl, rfl, rfl, rfl⟩

@[simp] theorem VehRec.endTask_keep (r : VehRec) (o : TaskOutcome) :
    (r.endTask o).enrolled = r.enrolled ∧ (r.endTask o).speed = r.speed ∧ (r.endTask o).balance = r.balance ∧
      (r.endTask o).barred = r.barred ∧ (r.endTask o).interval = r.interval := ⟨rfl, rfl, rfl, rfl, rfl⟩

@[simp] theorem State.vehState_frame (s : State) (v : Vehicle) (x : VehState) :
    (s.vehState v x).frame = s.frame := by
  unfold State.vehState
  try dsimp only
  all_goals simp

@[simp] theorem State.vehPhase_frame (s : State) (v : Vehicle) (p : Phase) :
    (s.vehPhase v p).frame = s.frame := by
  unfold State.vehPhase
  try dsimp only
  all_goals simp

@[simp] theorem State.orderIf_frame (s : State) (v : Vehicle) (o : Order) :
    (s.orderIf v o).frame = s.frame := by
  unfold State.orderIf
  try dsimp only
  repeat' split
  all_goals simp

@[simp] theorem State.waitAt_frame (s : State) (v : Vehicle) (p : Phase) :
    (s.waitAt v p).frame = s.frame := by
  unfold State.waitAt
  try dsimp only
  all_goals simp

@[simp] theorem State.stall_frame (s : State) (v : Vehicle) :
    (s.stall v).frame = s.frame := by
  unfold State.stall
  try dsimp only
  all_goals simp

@[simp] theorem State.leaveUnusedLane_frame (s : State) (v : Vehicle) :
    (s.leaveUnusedLane v).frame = s.frame := by
  unfold State.leaveUnusedLane
  try dsimp only
  repeat' split
  all_goals simp

@[simp] theorem State.becomeIdle_frame (s : State) (v : Vehicle) :
    (s.becomeIdle v).frame = s.frame := by
  unfold State.becomeIdle
  try dsimp only
  all_goals simp

@[simp] theorem State.reportTask_frame (s : State) (id : Nat) :
    (s.reportTask id).frame = s.frame := by
  unfold State.reportTask
  try dsimp only
  repeat' split
  all_goals simp

@[simp] theorem State.taskState_frame (s : State) (id : Nat) (x : TaskState) :
    (s.taskState id x).frame = s.frame := by
  unfold State.taskState
  try dsimp only
  all_goals simp

@[simp] theorem State.dropTask_frame (s : State) (id : Nat) :
    (s.dropTask id).frame = s.frame := by
  exact frame_eq rfl rfl rfl rfl rfl rfl rfl rfl rfl rfl rfl rfl rfl rfl rfl rfl rfl

@[simp] theorem State.endAtVehicle_frame (s : State) (t : TaskRec) (r : TaskResult) :
    (s.endAtVehicle t r).frame = s.frame := by
  unfold State.endAtVehicle
  try dsimp only
  repeat' split
  all_goals simp

@[simp] theorem State.reportEnd_frame (s : State) (t : TaskRec) (r : TaskResult) :
    (s.reportEnd t r).frame = s.frame := by
  unfold State.reportEnd
  try dsimp only
  repeat' split
  all_goals simp

@[simp] theorem State.endTask_frame (s : State) (id : Nat) (r : TaskResult) (b : Bool) :
    (s.endTask id r b).frame = s.frame := by
  unfold State.endTask
  split
  · rfl
  · next t _ =>
    dsimp only
    split <;> simp [foldl_frame (fun s b => State.releaseBay_frame s b id)]

@[simp] theorem State.finishTask_frame (s : State) (v : Vehicle) (r : TaskResult) :
    (s.finishTask v r).frame = s.frame := by
  unfold State.finishTask
  try dsimp only
  repeat' split
  all_goals simp

@[simp] theorem State.askRun_frame (s : State) (v : Vehicle) (t : TaskRec) :
    (s.askRun v t).frame = s.frame := by
  unfold State.askRun
  split
  · simp
  · split
    · simp
    · dsimp only
      split
      all_goals
        next h =>
          have e := congrArg (fun p => p.1.frame) h
          simp at e
          simp [← e]

@[simp] theorem State.leaveWith_frame (s : State) (v : Vehicle) (r : TaskResult) :
    (s.leaveWith v r).frame = s.frame := by
  unfold State.leaveWith
  try dsimp only
  repeat' split
  all_goals simp

@[simp] theorem State.backOut_frame (s : State) (v : Vehicle) (r : TaskResult) :
    (s.backOut v r).frame = s.frame := by
  unfold State.backOut
  try dsimp only
  all_goals simp

@[simp] theorem State.picking_frame (s : State) (v : Vehicle) (id : Nat) (x : Option Nat) :
    (s.picking v id x).frame = s.frame := by
  unfold State.picking
  try dsimp only
  all_goals simp

@[simp] theorem State.read_frame (s : State) (v : Vehicle) :
    (s.read v).frame = s.frame := by
  unfold State.read
  try dsimp only
  all_goals simp

@[simp] theorem State.pickLane_frame (s : State) (v : Vehicle) (t : TaskRec) (l : Nat) :
    (s.pickLane v t l).frame = s.frame := by
  unfold State.pickLane
  try dsimp only
  repeat' split
  all_goals simp

@[simp] theorem State.pickBay_frame (s : State) (v : Vehicle) (t : TaskRec) (b : Fin 8) :
    (s.pickBay v t b).frame = s.frame := by
  unfold State.pickBay
  try dsimp only
  repeat' split
  all_goals simp

@[simp] theorem State.beginPlace_frame (s : State) (v : Vehicle) (t : TaskRec) :
    (s.beginPlace v t).frame = s.frame := by
  unfold State.beginPlace
  try dsimp only
  repeat' split
  all_goals simp

@[simp] theorem State.beginStand_frame (s : State) (v : Vehicle) (t : TaskRec) (st : Stand) :
    (s.beginStand v t st).frame = s.frame := by
  unfold State.beginStand
  split
  · simp
  · dsimp only
    split
    all_goals
      next h =>
        have e := congrArg (fun p => p.1.frame) h
        simp at e
        simp [← e]

@[simp] theorem State.doze_frame (s : State) (v : Vehicle) :
    (s.doze v).frame = s.frame := by
  unfold State.doze
  try dsimp only
  repeat' split
  all_goals simp

@[simp] theorem State.beginWork_frame (s : State) (v : Vehicle) (t : TaskRec) (p : Place) :
    (s.beginWork v t p).frame = s.frame := by
  unfold State.beginWork
  try dsimp only
  repeat' split
  all_goals simp

@[simp] theorem State.openHere_frame (s : State) (v : Vehicle) (t : TaskRec) (l : Nat) :
    (s.openHere v t l).frame = s.frame := by
  have h := StoreUnit.openLane_config s.su l v t.purpose
  unfold State.openHere
  split
  · simp
  · split
    · simp
    · simp
    · next su eq => rw [eq] at h; simp [State.setStore_frame s su h]

@[simp] theorem State.driveTo_frame (s : State) (v : Vehicle) (t : TaskRec) (p : Place) :
    (s.driveTo v t p).frame = s.frame := by
  unfold State.driveTo
  try dsimp only
  repeat' split
  all_goals simp

@[simp] theorem State.chooseCharger_frame (s : State) (v : Vehicle) (t : TaskRec) :
    (s.chooseCharger v t).frame = s.frame := by
  unfold State.chooseCharger
  try dsimp only
  repeat' split
  all_goals simp

@[simp] theorem State.beginRound_frame (s : State) (id : Nat) (b : Fin 8) :
    (s.beginRound id b).frame = s.frame := by
  unfold State.beginRound
  cases h : s.su.reserveBay b id with
  | none => simp
  | some su => simpa using State.setStore_frame s su (StoreUnit.reserveBay_config h)

@[simp] theorem State.nextRound_frame (s : State) (v : Vehicle) (t : TaskRec) (l : Nat) :
    (s.nextRound v t l).frame = s.frame := by
  unfold State.nextRound
  split <;> simp

@[simp] theorem State.startTask_frame (s : State) (v : Vehicle) :
    (s.startTask v).frame = s.frame := by
  unfold State.startTask
  try dsimp only
  repeat' split
  all_goals simp

@[simp] theorem State.granted_frame (s : State) (v : Vehicle) :
    (s.granted v).frame = s.frame := by
  unfold State.granted
  try dsimp only
  repeat' split
  all_goals simp

@[simp] theorem State.laneRefused_frame (s : State) (v : Vehicle) :
    (s.laneRefused v).frame = s.frame := by
  unfold State.laneRefused
  try dsimp only
  repeat' split
  all_goals simp

@[simp] theorem State.failWork_frame (s : State) (v : Vehicle) (r : FailReason) :
    (s.failWork v r).frame = s.frame := by
  unfold State.failWork
  try dsimp only
  repeat' split
  all_goals simp

@[simp] theorem State.vehFault_frame (s : State) (v : Vehicle) (c : FaultCause) (r : FailReason) :
    (s.vehFault v c r).frame = s.frame := by
  unfold State.vehFault
  try dsimp only
  all_goals simp

@[simp] theorem State.positionFault_frame (s : State) (v : Vehicle) :
    (s.positionFault v).frame = s.frame := by
  unfold State.positionFault
  try dsimp only
  all_goals simp

@[simp] theorem State.vehLost_frame (s : State) (v : Vehicle) :
    (s.vehLost v).frame = s.frame := by
  unfold State.vehLost
  try dsimp only
  repeat' split
  all_goals simp

@[simp] theorem State.linkLost_frame (s : State) (v : Vehicle) :
    (s.linkLost v).frame = s.frame := by
  unfold State.linkLost
  try dsimp only
  all_goals simp

@[simp] theorem State.homeFailed_frame (s : State) (v : Vehicle) :
    (s.homeFailed v).frame = s.frame := by
  unfold State.homeFailed
  try dsimp only
  all_goals simp

@[simp] theorem State.goHome_frame (s : State) (v : Vehicle) :
    (s.goHome v).frame = s.frame := by
  unfold State.goHome
  try dsimp only
  all_goals simp

@[simp] theorem State.backAtHead_frame (s : State) (v : Vehicle) :
    (s.backAtHead v).frame = s.frame := by
  unfold State.backAtHead
  try dsimp only
  repeat' split
  all_goals simp

@[simp] theorem State.pickFailed_frame (s : State) (v : Vehicle) (t : TaskRec) (tag : Tag) :
    (s.pickFailed v t tag).frame = s.frame := by
  unfold State.pickFailed
  try dsimp only
  repeat' split
  all_goals simp

/-! ## Fleet Dispatcher: queue and arbiter -/

@[simp] theorem State.queueRefused_frame (s : State) :
    (s.queueRefused).frame = s.frame := by
  unfold State.queueRefused
  simp
  exact frame_eq rfl rfl rfl rfl rfl rfl rfl rfl rfl rfl rfl rfl rfl rfl rfl rfl rfl

@[simp] theorem State.rouse_frame (s : State) (v : Vehicle) :
    (s.rouse v).frame = s.frame := by
  unfold State.rouse
  try dsimp only
  repeat' split
  all_goals simp

@[simp] theorem State.setTo_frame (s : State) (v : Vehicle) :
    (s.setTo v).frame = s.frame := by
  unfold State.setTo
  try dsimp only
  repeat' split
  all_goals simp

@[simp] theorem State.assign_frame (s : State) (id : Nat) (v : Vehicle) (r : Option TaskRoute) :
    (s.assign id v r).frame = s.frame := by
  unfold State.assign
  try dsimp only
  all_goals simp

@[simp] theorem State.createCharge_frame (s : State) (v : Vehicle) :
    (s.createCharge v).frame = s.frame := by
  unfold State.createCharge
  try dsimp only
  repeat' split
  all_goals simp

@[simp] theorem State.createPark_frame (s : State) (v : Vehicle) :
    (s.createPark v).frame = s.frame := by
  unfold State.createPark
  try dsimp only
  repeat' split
  all_goals simp

@[simp] theorem State.park_frame (s : State) (v : Vehicle) : (s.park v).frame = s.frame := by
  unfold State.park
  split <;> simp

@[simp] theorem State.parkAgain_frame (s : State) (v : Vehicle) : (s.parkAgain v).frame = s.frame := by
  unfold State.parkAgain
  repeat' split
  all_goals simp

@[simp] theorem State.parkExpiry_frame (s : State) (v : Vehicle) :
    (s.parkExpiry v).frame = s.frame := by
  unfold State.parkExpiry
  try dsimp only
  repeat' split
  all_goals simp

@[simp] theorem State.sleepExpiry_frame (s : State) (v : Vehicle) :
    (s.sleepExpiry v).frame = s.frame := by
  unfold State.sleepExpiry
  try dsimp only
  repeat' split
  all_goals simp

@[simp] theorem State.vehFree_frame (s : State) (v : Vehicle) :
    (s.vehFree v).frame = s.frame := by
  unfold State.vehFree
  try dsimp only
  repeat' split
  all_goals simp

@[simp] theorem State.slotFreed_frame (s : State) :
    (s.slotFreed).frame = s.frame := by
  unfold State.slotFreed
  simp only [State.post_frame]
  rw [foldl_frame State.parkAgain_frame, foldl_frame State.createCharge_frame]

@[simp] theorem State.matchTask_frame (s : State) (id : Nat) :
    (s.matchTask id).frame = s.frame := by
  unfold State.matchTask
  try dsimp only
  repeat' split
  all_goals simp

@[simp] theorem State.beginMatch_frame (s : State) (id : Nat) :
    (s.beginMatch id).frame = s.frame := by
  unfold State.beginMatch
  repeat' split
  all_goals simp

@[simp] theorem State.arbiter_frame (s : State) :
    (s.arbiter).frame = s.frame := by
  unfold State.arbiter
  split
  · rw [foldl_frame State.beginMatch_frame, foldl_frame State.matchTask_frame]
  · rfl

@[simp] theorem State.runsMayBeAsked_frame (s : State) :
    (s.runsMayBeAsked).frame = s.frame := by
  unfold State.runsMayBeAsked
  dsimp only
  simp only [State.post_frame]
  rw [foldl_frame (fun s v => by simp), foldl_frame (fun s v => ?_)]
  split
  · split <;> simp
  · rfl

@[simp] theorem State.retryWaits_frame (s : State) :
    (s.retryWaits).frame = s.frame := by
  unfold State.retryWaits
  refine foldl_frame (fun s v => ?_) _ s
  split
  · split <;> simp
  · simp
  · rfl

@[simp] theorem State.armCleared_frame (s : State) (st : Stand) :
    (s.armCleared st).frame = s.frame := by
  unfold State.armCleared
  refine foldl_frame (fun s v => ?_) _ s
  split
  · split <;> simp
  · rfl

@[simp] theorem State.createDeliver_frame (s : State) (st : Stand) (d : Nat) :
    (s.createDeliver st d).1.frame = s.frame := by
  unfold State.createDeliver
  try dsimp only
  repeat' split
  all_goals simp

@[simp] theorem State.createRelocate_frame (s : State) (n l : Nat) (b : Fin 8) (t : TaskRec) :
    (s.createRelocate n l b t).1.frame = s.frame := by
  unfold State.createRelocate
  try dsimp only
  repeat' split
  all_goals simp

@[simp] theorem State.queueTask_frame (s : State) (id : Nat) :
    (s.queueTask id).frame = s.frame := by
  unfold State.queueTask
  try dsimp only
  all_goals simp

@[simp] theorem State.removeTask_frame (s : State) (id : Nat) :
    (s.removeTask id).frame = s.frame := by
  unfold State.removeTask
  try dsimp only
  repeat' split
  all_goals simp

@[simp] theorem State.newDeadline_frame (s : State) (d id : Nat) :
    (s.newDeadline d id).frame = s.frame := by
  unfold State.newDeadline
  try dsimp only
  repeat' split
  all_goals simp

@[simp] theorem State.cancelPending_frame (s : State) (id : Nat) :
    (s.cancelPending id).frame = s.frame := by
  unfold State.cancelPending
  try dsimp only
  all_goals simp

@[simp] theorem State.cancelAt_frame (s : State) (v : Vehicle) (t : TaskRec) :
    (s.cancelAt v t).1.frame = s.frame := by
  unfold State.cancelAt
  try dsimp only
  repeat' split
  all_goals simp

@[simp] theorem State.cancelTask_frame (s : State) (t : TaskRec) :
    (s.cancelTask t).1.frame = s.frame := by
  unfold State.cancelTask
  try dsimp only
  repeat' split
  all_goals simp

/-! ## Feed Planner -/

@[simp] theorem State.evalSlow_frame (s : State) (p : Press) :
    (s.evalSlow p).frame = s.frame := by
  unfold State.evalSlow
  try dsimp only
  repeat' split
  all_goals simp

@[simp] theorem State.computeSlack_frame (s : State) (st : Stand) :
    (s.computeSlack st).frame = s.frame := by
  unfold State.computeSlack
  try dsimp only
  repeat' split
  all_goals simp

@[simp] theorem State.slackSecond_frame (s : State) :
    (s.slackSecond).frame = s.frame := by
  exact foldl_frame State.computeSlack_frame _ s

@[simp] theorem State.followStop_frame (s : State) (st : Stand) (x y : StandState) :
    (s.followStop st x y).frame = s.frame := by
  unfold State.followStop
  try dsimp only
  repeat' split
  all_goals simp

@[simp] theorem State.starve_frame (s : State) (st : Stand) (x : Starved) :
    (s.starve st x).frame = s.frame := by
  unfold State.starve
  try dsimp only
  repeat' split
  all_goals simp

@[simp] theorem State.supply_frame (s : State) (st : Stand) (id : Nat) (r : RollRec) (x : TaskState) (ds : List Nat) :
    (s.supply st id r x ds).frame = s.frame := by
  unfold State.supply
  try dsimp only
  all_goals simp

theorem State.digTasks_frame {l : Nat} {t : TaskRec} {xs : List (Nat × Fin 8)} {s s1 : State} {ids : List Nat}
    (h : s.digTasks l t xs = some (s1, ids)) : s1.frame = s.frame := by
  induction xs generalizing s s1 ids with
  | nil => simp only [State.digTasks, Option.some.injEq, Prod.mk.injEq] at h; rw [← h.1]
  | cons x xs ih =>
    unfold State.digTasks at h
    split at h
    · contradiction
    · next s2 id e =>
      have e1 := congrArg (fun p => p.1.frame) e
      simp at e1
      split at h
      · contradiction
      · next su e2 =>
        split at h
        · next s3 ids3 e3 =>
          simp only [Option.some.injEq, Prod.mk.injEq] at h
          rw [← h.1, ih e3, State.setStore_frame _ _ (StoreUnit.reserveBay_config e2), ← e1]
        · contradiction

theorem State.takeChoice_frame {s s1 : State} {st : Stand} {t : TaskRec} {r : RollRec}
    (h : s.takeChoice st t r = some s1) : s1.frame = s.frame := by
  unfold State.takeChoice at h
  split at h
  · contradiction
  · next su e =>
    have e1 := State.setStore_frame s su (StoreUnit.reserveRoll_config e)
    dsimp only at h
    split at h
    · split at h
      · next s2 id ids e2 =>
        simp only [Option.some.injEq] at h
        rw [← h]
        simp [State.digTasks_frame e2, e1]
      · contradiction
    · simp only [Option.some.injEq] at h
      rw [← h]
      simp [e1]

@[simp] theorem State.choose_frame (s : State) (st : Stand) :
    (s.choose st).frame = s.frame := by
  unfold State.choose
  dsimp only
  split
  · rfl
  · next t _ =>
    split
    · split
      · next r _ =>
        cases e : s.takeChoice st t r with
        | none => simp
        | some s1 => simpa using State.takeChoice_frame e
      · simp
    · rfl

@[simp] theorem State.retryAll_frame (s : State) :
    (s.retryAll).frame = s.frame := by
  unfold State.retryAll
  refine foldl_frame (fun s id => ?_) _ s
  split <;> simp

@[simp] theorem State.createTest_frame (s : State) (st : Stand) :
    (s.createTest st).frame = s.frame := by
  unfold State.createTest
  dsimp only
  split
  · split
    all_goals
      next h =>
        have e := congrArg (fun p => p.1.frame) h
        simp at e
        simp [← e]
  · rfl

@[simp] theorem State.createNext_frame (s : State) (st : Stand) :
    (s.createNext st).frame = s.frame := by
  simp [State.createNext]

@[simp] theorem State.slotOffered_frame (s : State) :
    (s.slotOffered).frame = s.frame := by
  unfold State.slotOffered
  dsimp only
  rw [foldl_frame State.createTest_frame, State.retryAll_frame]

@[simp] theorem State.dropDig_frame (s : State) (id : Nat) :
    (s.dropDig id).frame = s.frame := by
  unfold State.dropDig
  try dsimp only
  repeat' split
  all_goals simp

@[simp] theorem State.freeRoll_frame (s : State) (st : Stand) :
    (s.freeRoll st).frame = s.frame := by
  unfold State.freeRoll
  try dsimp only
  repeat' split
  all_goals simp

@[simp] theorem State.recordFailure_frame (s : State) (st : Stand) (c : FailCause) (id : Nat) (n : Option Nat) :
    (s.recordFailure st c id n).frame = s.frame := by
  unfold State.recordFailure
  try dsimp only
  all_goals simp

@[simp] theorem State.failDelivery_frame (s : State) (st : Stand) (c : FailCause) :
    (s.failDelivery st c).frame = s.frame := by
  unfold State.failDelivery
  dsimp only
  simp [foldl_frame State.dropDig_frame]

@[simp] theorem State.reservationLost_frame (s : State) (st : Stand) (n : Nat) :
    (s.reservationLost st n).frame = s.frame := by
  unfold State.reservationLost
  try dsimp only
  repeat' split
  all_goals simp

@[simp] theorem State.deliverEnded_frame (s : State) (st : Stand) (r : TaskResult) :
    (s.deliverEnded st r).frame = s.frame := by
  unfold State.deliverEnded
  try dsimp only
  repeat' split
  all_goals simp

@[simp] theorem State.backToWaitRoll_frame (s : State) (st : Stand) (id : Nat) :
    (s.backToWaitRoll st id).frame = s.frame := by
  unfold State.backToWaitRoll
  try dsimp only
  all_goals simp

@[simp] theorem State.digFailed_frame (s : State) (st : Stand) (id : Nat) :
    (s.digFailed st id).frame = s.frame := by
  unfold State.digFailed
  dsimp only
  simp [foldl_frame State.dropDig_frame]

@[simp] theorem State.digDone_frame (s : State) (st : Stand) (id : Nat) (ds : List Nat) :
    (s.digDone st id ds).frame = s.frame := by
  unfold State.digDone
  try dsimp only
  repeat' split
  all_goals simp

@[simp] theorem State.relocateEnded_frame (s : State) (st : Stand) (x : EndedTask) :
    (s.relocateEnded st x).frame = s.frame := by
  unfold State.relocateEnded
  try dsimp only
  repeat' split
  all_goals simp

@[simp] theorem State.taskEnded_frame (s : State) (x : EndedTask) :
    (s.taskEnded x).frame = s.frame := by
  unfold State.taskEnded
  try dsimp only
  repeat' split
  all_goals simp

@[simp] theorem State.taskReported_frame (s : State) (id : Nat) (x : TaskState) (f : Option Figures) :
    (s.taskReported id x f).frame = s.frame := by
  unfold State.taskReported
  try dsimp only
  repeat' split
  all_goals simp

@[simp] theorem State.timeHanded_frame (s : State) (st : Stand) (t d : Nat) :
    (s.timeHanded st t d).frame = s.frame := by
  unfold State.timeHanded
  dsimp only
  split
  · rw [foldl_frame (fun s k => State.newDeadline_frame s d k)]; simp
  · simp

@[simp] theorem State.standHanded_frame (s : State) (st : Stand) (f : StandFacts) (a b : Bool) :
    (s.standHanded st f a b).frame = s.frame := by
  unfold State.standHanded
  try dsimp only
  repeat' split
  all_goals simp

/-! ## Hand-offs -/

@[simp] theorem State.inbox_frame (s : State) (ms : List Msg) : ({ s with inbox := ms } : State).frame = s.frame := rfl

/-- A hand-off changes nothing of the frame. -/
@[simp] theorem State.handle_frame (s : State) (m : Msg) :
    (s.handle m).frame = s.frame := by
  cases m <;> simp [State.handle]

/-- The hand-offs of a command change nothing of the frame. -/
@[simp] theorem State.settle_frame (k : Nat) (s : State) :
    (State.settle k s).frame = s.frame := by
  induction k generalizing s with
  | zero => rfl
  | succ k ih =>
    unfold State.settle
    split
    · rfl
    · rw [ih]; simp

end Sys2Proof.Machine
end

