-- ==== Sys2Proof/Laws/Ops.lean ====
section
/-! SUPPORT. What the shared operations do, said once: indexes and ranges, ordered lists, the records found after a write, the
rule by which a property that every hand-off keeps is kept to the end of a command, and the cases of the fleet's shared steps. -/

namespace Sys2Proof.Machine

/-! ## Numbers -/

theorem fin?_eq_some {n k : Nat} {i : Fin n} : fin? n k = some i ↔ k = i.val := by
  unfold fin?
  split
  · constructor
    · intro h; cases h; rfl
    · intro h; subst h; rfl
  · next h => exact ⟨nofun, fun e => absurd (e ▸ i.isLt) h⟩

theorem fin?_eq_none {n k : Nat} : fin? n k = none ↔ n ≤ k := by
  unfold fin?
  split
  · next h => exact ⟨nofun, fun e => absurd h (by omega)⟩
  · next h => exact ⟨fun _ => by omega, fun _ => rfl⟩

@[simp] theorem fin?_val {n : Nat} (i : Fin n) : fin? n i.val = some i := fin?_eq_some.2 rfl

theorem clamp_le {lo hi n : Nat} (h : lo ≤ hi) : clamp lo hi n ≤ hi := by unfold clamp; omega

theorem le_clamp {lo hi n : Nat} : lo ≤ clamp lo hi n := by unfold clamp; omega

theorem clamp_of_mem {lo hi n : Nat} (h : lo ≤ n) (h' : n ≤ hi) : clamp lo hi n = n := by unfold clamp; omega

/-- A range field stays within its range when the value held does. -/
theorem rangeField_mem {lo hi held : Nat} {o : Option Nat} (h : lo ≤ hi) (hh : lo ≤ held ∧ held ≤ hi) :
    lo ≤ (rangeField lo hi held o).1 ∧ (rangeField lo hi held o).1 ≤ hi := by
  cases o with
  | none => exact hh
  | some n => exact ⟨le_clamp, clamp_le h⟩

theorem satU32_le (n : Nat) : satU32 n ≤ 4294967295 := by unfold satU32 Config.maxU32; omega

/-! ## Ordered lists -/

theorem insertBy_perm {α : Type} (le : α → α → Bool) (x : α) (xs : List α) : (insertBy le x xs).Perm (x :: xs) := by
  induction xs with
  | nil => exact .refl _
  | cons y ys ih =>
    unfold insertBy
    split
    · exact (ih.cons y).trans (.swap x y ys)
    · exact .refl _

theorem foldl_insertBy_perm {α : Type} (le : α → α → Bool) (xs acc : List α) :
    (xs.foldl (fun acc x => insertBy le x acc) acc).Perm (acc ++ xs) := by
  induction xs generalizing acc with
  | nil => simp
  | cons x xs ih =>
    refine (ih _).trans ((insertBy_perm le x acc).append_right xs |>.trans ?_)
    exact List.perm_middle.symm

/-- Ordering a list keeps its entries. -/
theorem sortBy_perm {α : Type} (le : α → α → Bool) (xs : List α) : (sortBy le xs).Perm xs := by
  simpa [sortBy] using foldl_insertBy_perm le xs []

theorem mem_sortBy {α : Type} {le : α → α → Bool} {x : α} {xs : List α} : x ∈ sortBy le xs ↔ x ∈ xs :=
  (sortBy_perm le xs).mem_iff

theorem insertBy_pairwise {α : Type} {le : α → α → Bool} (total : ∀ x y, le x y = true ∨ le y x = true)
    (trans : ∀ x y z, le x y = true → le y z = true → le x z = true) (x : α) {xs : List α}
    (h : xs.Pairwise (fun a b => le a b = true)) : (insertBy le x xs).Pairwise (fun a b => le a b = true) := by
  induction xs with
  | nil => simp [insertBy]
  | cons y ys ih =>
    rw [List.pairwise_cons] at h
    unfold insertBy
    split
    · next e =>
      rw [List.pairwise_cons]
      refine ⟨fun z hz => ?_, ih h.2⟩
      rcases List.mem_cons.1 ((insertBy_perm le x ys).mem_iff.1 hz) with rfl | hz
      · exact e
      · exact h.1 z hz
    · next e =>
      have hxy : le x y = true := (total x y).resolve_right (by simpa using e)
      rw [List.pairwise_cons, List.pairwise_cons]
      refine ⟨fun z hz => ?_, h⟩
      rcases List.mem_cons.1 hz with rfl | hz
      · exact hxy
      · exact trans x y z hxy (h.1 z hz)

/-- The ordered list is in order. -/
theorem sortBy_pairwise {α : Type} {le : α → α → Bool} (total : ∀ x y, le x y = true ∨ le y x = true)
    (trans : ∀ x y z, le x y = true → le y z = true → le x z = true) (xs : List α) :
    (sortBy le xs).Pairwise (fun a b => le a b = true) := by
  suffices ∀ acc : List α, acc.Pairwise (fun a b => le a b = true) →
      (xs.foldl (fun acc x => insertBy le x acc) acc).Pairwise (fun a b => le a b = true) from this [] .nil
  induction xs with
  | nil => exact fun _ h => h
  | cons x xs ih => exact fun acc h => ih _ (insertBy_pairwise total trans x h)

theorem firstBy?_mem {α : Type} {lt : α → α → Bool} {xs : List α} {x : α} (h : firstBy? lt xs = some x) : x ∈ xs := by
  cases xs with
  | nil => cases h
  | cons y ys =>
    simp only [firstBy?, Option.some.injEq] at h
    subst h
    suffices ∀ b : α, ys.foldl (fun best y => if lt y best then y else best) b = b ∨
        ys.foldl (fun best y => if lt y best then y else best) b ∈ ys by
      rcases this y with e | e
      · rw [e]; exact List.mem_cons_self
      · exact List.mem_cons_of_mem _ e
    induction ys with
    | nil => exact fun b => .inl rfl
    | cons z zs ih =>
      intro b
      simp only [List.foldl_cons]
      split
      · rcases ih z with e | e
        · exact .inr (by rw [e]; exact List.mem_cons_self)
        · exact .inr (List.mem_cons_of_mem _ e)
      · rcases ih b with e | e
        · exact .inl e
        · exact .inr (List.mem_cons_of_mem _ e)

/-! ## Records found after a write -/

theorem find?_map_key {α : Type} (key : α → Nat) (n m : Nat) (f : α → α) (hf : ∀ x, key (f x) = key x) (xs : List α) :
    (xs.map (fun x => if key x == n then f x else x)).find? (fun x => key x == m) =
      (xs.find? (fun x => key x == m)).map (fun x => if m = n then f x else x) := by
  induction xs with
  | nil => rfl
  | cons x xs ih =>
    rw [List.map_cons]
    by_cases hm : key x = m
    · subst hm
      by_cases hn : key x = n <;> simp [hn, hf]
    · have e : (key (if key x == n then f x else x) == m) = false := by
        split <;> simp [hf, hm]
      have e' : (key x == m) = false := by simpa using hm
      rw [List.find?_cons, List.find?_cons, e, e']
      exact ih

/-- The record of a roll after a write that keeps roll numbers. -/
theorem StoreUnit.roll?_modRoll (su : StoreUnit) (n m : Nat) (f : RollRec → RollRec) (hf : ∀ r, (f r).num = r.num) :
    (su.modRoll n f).roll? m = (su.roll? m).map (fun r => if m = n then f r else r) :=
  find?_map_key RollRec.num n m f hf su.rolls

/-- The task found after a write that keeps task ids. -/
theorem State.task?_modTask (s : State) (n m : Nat) (f : TaskRec → TaskRec) (hf : ∀ t, (f t).id = t.id) :
    (s.modTask n f).task? m = (s.task? m).map (fun t => if m = n then f t else t) :=
  find?_map_key TaskRec.id n m f hf s.fd.tasks

/-! ## The end of a command -/

/-- What every hand-off keeps, and the removal of one from the inbox too, the taking of the hand-offs keeps. -/
theorem State.settle_keeps {P : State → Prop} (pop : ∀ s ms, P s → P { s with inbox := ms })
    (hand : ∀ s m, P s → P (s.handle m)) (k : Nat) (s : State) (h : P s) : P (State.settle k s) := by
  induction k generalizing s with
  | zero => exact h
  | succ k ih =>
    unfold State.settle
    split
    · exact h
    · exact ih _ (hand _ _ (pop _ _ h))

/-- What also the fleet's stop check and the transmitter keep, the end of a command keeps. -/
theorem State.finish_keeps {P : State → Prop} (pop : ∀ s ms, P s → P { s with inbox := ms })
    (hand : ∀ s m, P s → P (s.handle m)) (stop : ∀ s : State, P s → P s.fleetStopCheck) (pump : ∀ s : State, P s → P s.pump)
    (s : State) (h : P s) : P s.finish :=
  pump _ (stop _ (State.settle_keeps pop hand _ s h))

/-- A property kept by each of a list's turns is kept by all of them. -/
theorem foldl_keeps {α : Type} {P : State → Prop} {f : State → α → State} (h : ∀ s x, P s → P (f s x)) (xs : List α)
    (s : State) (hs : P s) : P (xs.foldl f s) := by
  induction xs generalizing s with
  | nil => exact hs
  | cons x xs ih => exact ih _ (h s x hs)

/-! ## A grant attempt -/

/-- The outcomes of a grant attempt: granted through the doors, or ended with the state as it was, or ended at a door. -/
theorem State.tryGrant_cases (s : State) (e : WaitEntry) :
    (∃ h, s.lu.held? e.run = some h ∧ s.tryGrant e = (s, .held h)) ∨
    (s.lu.held? e.run = none ∧ e.lane = none ∧ s.tryGrant e = s.grantDoors e false) ∨
    ∃ l, s.lu.held? e.run = none ∧ e.lane = some l ∧
      (s.tryGrant e = (s, .laneRefused) ∨ s.tryGrant e = (s, .held (.lane l)) ∨
        ∃ su, s.su.openLane l e.veh e.purpose = (su, .opened) ∧ s.tryGrant e = (s.setStore su).grantDoors e
          ((s.su.lanes[l]?.map LaneRec.isOpen).getD false)) := by
  unfold State.tryGrant
  cases hh : s.lu.held? e.run with
  | some h => exact .inl ⟨h, rfl, rfl⟩
  | none =>
    cases hl : e.lane with
    | none => exact .inr (.inl ⟨rfl, rfl, rfl⟩)
    | some l =>
      refine .inr (.inr ⟨l, rfl, rfl, ?_⟩)
      rcases ho : s.su.openLane l e.veh e.purpose with ⟨su, a⟩
      cases a with
      | refused => exact .inl (by simp [ho])
      | notFree => exact .inr (.inl (by simp [ho]))
      | opened => exact .inr (.inr ⟨su, rfl, by simp [ho]⟩)

/-! ## Steps of the fleet -/

/-- When a vehicle owes a charge as it stands (R136). -/
theorem VehRec.owesCharge_iff (r : VehRec) : r.owesCharge = true ↔
    r.task = none ∧ (r.state = some .idle ∨ r.state = some .doze) ∧ 6 ≤ r.balance := by
  simp [VehRec.owesCharge, and_assoc]

/-- A change of state: nothing when the vehicle is in the state, else the new state's fields and the mark. -/
theorem VehRec.enter_eq (r : VehRec) (st : VehState) (now : Nat) (h : r.state ≠ some st) : r.enter st now = { r with
    state := some st, entry := some now, delayFrom := now, parkWait := false, sleepTested := false
    cause := if st = .fault then r.cause else none
    chargeDue := r.chargeDue || decide (r.task = none ∧ (st = .idle ∨ st = .doze) ∧ 6 ≤ r.balance) } := by
  have e : ({ r with
      state := some st, entry := some now, delayFrom := now, parkWait := false, sleepTested := false
      cause := if st = .fault then r.cause else none } : VehRec).owesCharge =
      decide (r.task = none ∧ (st = .idle ∨ st = .doze) ∧ 6 ≤ r.balance) := by
    rw [Bool.eq_iff_iff, VehRec.owesCharge_iff, decide_eq_true_iff]
    simp
  simp [VehRec.enter, h, VehRec.markDue, e]

/-- A vehicle is given a CHARGE task under the conditions of R137. -/
theorem State.mayCharge_iff (s : State) (v : Vehicle) : s.mayCharge v = true ↔
    s.fd.vehicles[v].enrolled = true ∧ s.fd.vehicles[v].chargeDue = true ∧ s.fd.vehicles[v].reachable = true ∧
    s.fd.vehicles[v].halted = false ∧ s.fd.vehicles[v].task = none ∧ (s.fd.vehicles[v].state = some .idle ∨
      s.fd.vehicles[v].state = some .doze ∨ s.fd.vehicles[v].state = some .sleep) ∧ s.fd.fleet = .running ∧
    ∀ t ∈ s.fd.tasks, ¬(t.kind = .move ∧ t.vehicle = some v ∧ t.state = .queued) := by
  simp only [State.mayCharge, VehRec.restful, State.waitingMove, Bool.and_eq_true, Bool.or_eq_true, beq_iff_eq,
    Option.isNone_iff_eq_none, List.find?_eq_none, Bool.not_eq_true', and_assoc, or_assoc]

/-- What a vehicle given a task does: one that dozes or sleeps is woken or, halted, waits; a charging one is ordered UNDOCK once;
any other stays as it is. -/
theorem State.rouse_cases (s : State) (v : Vehicle) :
    ((s.fd.vehicles[v].state = some .doze ∨ s.fd.vehicles[v].state = some .sleep) ∧
      s.rouse v = if s.fd.vehicles[v].halted then s.stall v else (s.order v .wake).vehState v .waking) ∨
    (s.fd.vehicles[v].state = some .charging ∧
      s.rouse v = if s.fd.vehicles[v].undocking || s.fd.vehicles[v].halted then s
        else (s.order v .undock).modVeh v (fun r => { r with undocking := true })) ∨
    (s.fd.vehicles[v].state ≠ some .doze ∧ s.fd.vehicles[v].state ≠ some .sleep ∧ s.fd.vehicles[v].state ≠ some .charging ∧
      s.rouse v = s) := by
  unfold State.rouse
  dsimp only
  split <;> simp_all

/-- What an AT report at a node does to the lanes: a vehicle back at its lane head gives its lane back, any other report nothing. -/
theorem State.backAtHead_cases (s : State) (v : Vehicle) :
    s.backAtHead v = s ∨ ∃ l, s.fd.vehicles[v].node.bind s.lu.kind? = some (.laneHead l) ∧ s.fd.vehicles[v].backDue = true ∧
      s.fd.vehicles[v].state ≠ some .lost ∧ s.backAtHead v =
        (s.setStore (s.su.clearLane s.clk.tick l v)).modVeh v (fun r => { r with backDue := false }) := by
  unfold State.backAtHead
  dsimp only
  split
  · next l e =>
    split
    · next h => exact .inr ⟨l, e, h.1, h.2, rfl⟩
    · exact .inl rfl
  · exact .inl rfl

/-- The stop condition of R110: no enrolled vehicle but LOST, FAULT and halted ones is on a run or holds a lane OPEN. -/
theorem State.fleetIdle_iff (s : State) : s.fleetIdle = true ↔ ∀ v : Vehicle, s.fd.vehicles[v].enrolled = true →
    s.fd.vehicles[v].state ≠ some .lost → s.fd.vehicles[v].state ≠ some .fault → s.fd.vehicles[v].halted = false →
    s.lu.runs[v] = none ∧ ∀ r ∈ s.su.lanes, r.motion ≠ .opened v := by
  simp only [State.fleetIdle, VehRec.counts, StoreUnit.opensLane, List.all_eq_true, List.mem_finRange, true_implies,
    Bool.or_eq_true, Bool.not_eq_true', Bool.and_eq_true, Option.isNone_iff_eq_none]
  refine forall_congr' fun v => ?_
  rw [Bool.eq_false_iff]
  simp only [ne_eq, Bool.and_eq_true, bne_iff_ne, Bool.not_eq_true', List.any_eq_false, beq_iff_eq]
  constructor
  · rintro (h | h) a b c d
    · exact absurd ⟨⟨⟨a, b⟩, c⟩, d⟩ h
    · exact h
  · intro h
    by_cases c : ((s.fd.vehicles[v].enrolled = true ∧ ¬s.fd.vehicles[v].state = some .lost) ∧
        ¬s.fd.vehicles[v].state = some .fault) ∧ s.fd.vehicles[v].halted = false
    · exact .inr (h c.1.1.1 c.1.1.2 c.1.2 c.2)
    · exact .inl c

/-- The examination stops a HALTING fleet that is idle, and does nothing else. -/
theorem State.fleetStopCheck_eq (s : State) : s.fleetStopCheck =
    if s.fd.fleet = .halting ∧ s.fleetIdle = true then { s with
      fd := { s.fd with fleet := .stopped }, nu := s.nu.raise srcFleet (Reason.bit .fleetStopped) } else s := rfl

end Sys2Proof.Machine
end

