-- ==== Sys2Proof/WellFormed.lean ====
section
/-! DEFINITION. Which commands can come about at all: the operands of a request fit the fields that carry them on the Control
Line (R184, R187), a frame fits the line, and the measurement of MEASURE_RESET is one that R45 makes. Ranges that a rule
answers with a result code are not checked here: the meaning of the command answers them. -/

namespace Sys2Proof

/-- The value fits a field of `k` bytes. -/
def fits (k n : Nat) : Bool := decide (n < 256 ^ k)

/-- A named optional field fits `k` bytes. -/
def fitsOpt (k : Nat) (o : Option Nat) : Bool := o.all (fits k)

/-- Every entry of a list fits `k` bytes, and its count fits one (R187). -/
def fitsList (k : Nat) (ns : List Nat) : Bool := fits 1 ns.length && ns.all (fits k)

/-- A place's number fits its byte. -/
def PlaceArg.wf : PlaceArg → Bool
  | .lane n | .bay n => fits 1 n

def BayContent.wf : BayContent → Bool
  | .keep | .empty => true
  | .roll n => fits 4 n

def NodeKind.wf : NodeKind → Bool
  | .laneHead n | .bay n | .stand n => fits 1 n
  | .plain | .hold | .charger | .park | .home => true

def SegAttr.wf : SegAttr → Bool
  | .door n | .lane n => fits 1 n
  | .none => true

def FloorForm.wf : FloorForm → Bool
  | .node n | .segment n | .route n => fits 1 n
  | .waits => true

def TaskForm.wf : TaskForm → Bool
  | .one id => fits 2 id
  | .all pos => fits 1 pos

/-- The fields of STAND CONFIG (R187: match window in ‰, paste cycle in ms, the others in two bytes). -/
def StandCfgArg.wf (c : StandCfgArg) : Bool :=
  fitsOpt 2 c.reserve && fitsOpt 2 c.minReserve && fitsOpt 2 c.accelLead && fitsOpt 2 c.accelLimit && fitsOpt 2 c.prepTime &&
    fitsOpt 1 c.matchWindow && fitsOpt 4 c.pasteCycle && fitsOpt 2 c.ejectLimit

def PressCfgArg.wf (c : PressCfgArg) : Bool :=
  fitsOpt 2 c.scale && fitsOpt 2 c.cutOff && fitsOpt 1 c.pulses && fitsOpt 2 c.window

def FleetCfgArg.wf (c : FleetCfgArg) : Bool :=
  fitsOpt 2 c.holdTimeout && fitsOpt 2 c.parkDelay && fitsOpt 2 c.sleepDelay && fitsOpt 2 c.chargeInterval &&
    fitsOpt 2 c.topUpPeriod

/-- A roll number that a tag or a frame can carry (R158). -/
def Tag.wf : Tag → Bool
  | .noRead => true
  | .roll n => fits 4 n && n != 0

/-- The operands of a command fit what carries them. -/
def Instr.wf : Instr → Bool
  | .hardwareReset _ _ => true
  | .frameComplete f => decide (f.payload.length ≤ 1022)
  | .rxGapTimeout | .requestTake | .transmitDone | .identify | .attention => true
  | .timeSet t => fits 4 t
  | .resetMotion x => fits 1 x
  | .noticeMask ms _ => fits 1 ms.length && ms.all (fun x => fits 1 x.1 && fits 2 x.2)
  | .rollIn n g _ c d l p => fits 4 n && fits 1 g && fits 2 c && fits 2 d && fits 2 l && p.all PlaceArg.wf
  | .rollEdit n g _ c d l => fits 4 n && fitsOpt 1 g && fitsOpt 2 c && fitsOpt 2 d && fitsOpt 2 l
  | .rollHold n | .rollFree n | .rollClose n | .rollQuery n => fits 4 n
  | .gradeSet g m => fits 1 g && fits 2 m
  | .laneSet l ns => fits 1 l && fitsList 4 ns
  | .laneBlock l | .laneUnblock l | .laneRelease l | .laneQuery l => fits 1 l
  | .storeConfig ds c => fitsList 1 ds && fits 2 c
  | .storeQuery => true
  | .baySet b c => fits 1 b && c.all BayContent.wf
  | .doorConfig d n w => fits 1 d && fitsOpt 1 n && fitsOpt 2 w
  | .doorQuery d => fits 1 d
  | .standConfig st _ c => fits 1 st && c.wf
  | .standAuto st _ | .standResolve st _ => fits 1 st
  | .standSplice st | .standThread st | .standEject st | .standQuery st => fits 1 st
  | .standAssign st x => fits 1 st && x.all (fun p => fits 1 p.1)
  | .standWatch st set => fits 1 st && fits 2 set
  | .pressRelease p | .countClear p | .runsQuery p | .pressQuery p => fits 1 p
  | .pressFeedConfig d m pk pl => fitsOpt 2 d && fitsOpt 2 m && fitsOpt 2 pk && fitsOpt 2 pl
  | .pressConfig p c => fits 1 p && c.wf
  | .edition p t w => fits 1 p && fits 4 t && fits 4 w
  | .plate p _ => fits 1 p
  | .floorNode n k e => fits 1 n && k.all NodeKind.wf && fitsOpt 1 e
  | .floorSegment n x y len t _ => fits 1 n && fits 1 x && fits 1 y && fits 2 len && t.all SegAttr.wf
  | .floorRoute n x y gs => fits 1 n && fits 1 x && fits 1 y && fitsList 1 gs
  | .floorClear | .fleetStart | .fleetStop | .fleetQuery => true
  | .floorQuery f => f.all FloorForm.wf
  | .fleetConfig c => c.wf
  | .taskUnstack l n d => fits 1 l && fits 1 n && fitsOpt 4 d
  | .taskCheck l d => fits 1 l && fitsOpt 4 d
  | .taskMove v n p d => fits 1 v && fits 1 n && p.all (fun x => x.all PlaceArg.wf) && fitsOpt 4 d
  | .taskCancel k => fits 2 k
  | .taskQuery f => f.all TaskForm.wf
  | .vehicleEnrol v n => fits 1 v && fits 2 n
  | .vehicleRemove v | .vehicleHalt v | .vehicleHome v => fits 1 v
  | .vehicleRecover v n => fits 1 v && fits 1 n
  | .vehicleQuery v _ => fits 1 v
  | .hallSecond | .bucketBoundary | .pollCycleStart | .replyWindowExpiry | .rxFramingError => true
  | .laneClearExpiry _ | .webAdvance _ _ | .webCopy _ | .indexFault _ | .indexPulse _ _ => true
  | .measureReset _ m => decide (1 ≤ m) && decide (m ≤ 65535)
  | .prepRise _ | .pastedRise _ | .buttClrRise _ | .pressRunRise _ | .pressRunFall _ | .breakRise _ => true
  | .accelTimeout _ | .pasteTimeout _ | .ejectTimeout _ | .copyPulse _ _ _ | .copyComplete _ _ => true
  | .visit _ | .statusFrame _ _ | .homePassageLimit _ | .linkLoss _ | .wakeExpiry _ | .holdTimeout _ => true
  | .pickFailed _ t => t.wf
  | .chargeIntervalExpiry _ | .topUpExpiry _ | .parkDelayExpiry _ | .sleepDelayExpiry _ => true
  | .rxByte _ => true

end Sys2Proof
end

