-- ==== Sys2Proof/Tests/Slice0.lean ====
section
/-! SUPPORT. Tests of the model: the WellFormed smoke test, worked figures of the manual, and for every statement of
Certificates/Slice0/Obligations.lean that has hypotheses a concrete state and operands that meet them. -/

open Sys2Proof Sys2Proof.Machine

namespace Sys2Proof.Tests

/-! ## A small state -/

/-- The state after a command. -/
def after (c : Instr) (s : State) : State :=
  match exec c s with
  | .next t => t
  | _ => s

/-- A roll of 80 µm, core 100 mm, label 14,500 m (chapter 3's example roll). -/
def rollAt (n : Nat) (st : RollState) (loc : Loc) (res : Option Stand) : RollRec :=
  { num := n, grade := 1, width := .full, caliper := 80, core := 100, label := 14500, arrival := 0, ready := 0, state := st
    mark := .normal, loc := loc, reservation := res, remaining := 14500000, measured := false, stripped := none, butt := none
    good := 0, waste := 0, spliceWaste := 0, spliceIn := none, spliceOut := none }

/-- Three lanes (one OPEN, one BLOCKED and full), a roll in a bay, a loaded vehicle, an ARMED stand on a running press. -/
def scene : State :=
  let s := State.reset
  { s with
    clk := ⟨50000, 50⟩
    pins := s.pins.set 0 ⟨true, false⟩
    su := { s.su with
      rolls := [rollAt 101 .ready (.lane 0 0) none, rollAt 102 .reserved (.lane 0 1) (some 1),
        rollAt 103 .reserved (.lane 1 0) (some 2), rollAt 104 .conditioning (.lane 2 0) none, rollAt 105 .ready (.bay 0) none,
        rollAt 106 .carried (.vehicle 1) (some 3), rollAt 107 .running (.stand 0 .a) none,
        rollAt 108 .standby (.stand 0 .b) (some 0), rollAt 109 .spent .none none]
      lanes := [⟨4, .idle, false, false, none, [101, 102]⟩, ⟨2, .opened 0, false, false, none, [103]⟩,
        ⟨1, .idle, true, true, some .noRead, [104]⟩]
      bays := s.su.bays.set 0 ⟨.occupied 105, false, none⟩ }
    ssq := s.ssq.set 0 { StandRec.reset with
      present := true, armA := some 107, armB := some 108, running := some .a, state := .armed }
    fd := { s.fd with vehicles := (s.fd.vehicles.set 0 { VehRec.reset with
        enrolled := true, reachable := true, state := some .idle, node := some 1 }).set 1 { VehRec.reset with
        enrolled := true, reachable := true, state := some .idle, node := some 2, load := some 106 } } }

/-- The scene with another record of stand 0. -/
def stand (f : StandRec → StandRec) : State := scene.modStand 0 f
/-- The scene with another record of vehicle 0. -/
def veh (f : VehRec → VehRec) : State := scene.modVeh 0 f
/-- The scene with another length of the running roll. -/
def running (mm : Nat) : State := scene.modRoll 107 (fun r => { r with remaining := mm })
/-- The scene with a task that vehicle 0 has, and its record. -/
def tasked (t : TaskRec) (f : VehRec → VehRec) : State :=
  (veh (fun r => f { r with task := some t.id })).setTasks [t]
/-- A task of a kind, assigned to vehicle 0. -/
def task (k : TaskKind) : TaskRec :=
  { id := 1, kind := k, state := .assigned, stand := none, roll := none, source := none, dest := none, deadline := none
    created := 0, vehicle := some 0, parent := none, count := 0, moved := 0, bay := none, reads := 0, route := none
    cancel := false, fail := none, toStand := none }

/-! ## Invariants as tests -/

/-- `Agrees`, as a test. -/
def agreesCheck (r : RollRec) : Bool :=
  match r.state, r.loc with
  | .conditioning, .lane _ _ | .conditioning, .bay _ | .ready, .lane _ _ | .ready, .bay _ => r.reservation.isNone
  | .reserved, .lane _ _ | .reserved, .bay _ => r.reservation.isSome
  | .carried, .vehicle _ => true
  | .standby, .stand _ _ => r.reservation.isSome
  | .running, .stand _ _ | .butt, .stand _ _ => r.reservation.isNone
  | .spent, .none => r.reservation.isNone
  | _, _ => false

/-- Whether the roll stands where its record says. -/
def standsThere (s : State) (r : RollRec) : Bool :=
  match r.loc with
  | .lane l d => (s.su.laneList l)[d]? == some r.num
  | .bay b => s.su.bays[b].state == .occupied r.num
  | .vehicle v => s.fd.vehicles[v].load == some r.num
  | .stand st arm => s.ssq[st].armRoll arm == some r.num
  | .none => true

/-- `TablesOk`, as a test. -/
def tablesCheck (s : State) : Bool :=
  decide (s.su.rolls.length ≤ 512) && decide (s.su.rolls.Pairwise (fun x y => x.num < y.num)) &&
    s.su.rolls.all (fun r => r.num != 0) && s.su.lanes.all (fun l => decide (l.list.length ≤ l.depth))

/-- `PlacesOk`, as a test over the records and places there are. -/
def placesCheck (s : State) : Bool :=
  tablesCheck s && s.su.rolls.all (fun r => agreesCheck r && standsThere s r) &&
    (List.range s.su.lanes.length).all (fun l => (List.range (s.su.laneList l).length).all (fun d =>
      (s.su.laneList l)[d]?.all (fun n => s.locOf n == some (.lane l d)))) &&
    (List.finRange 8).all (fun b => match s.su.bays[b].state with
      | .occupied n => s.locOf n == some (.bay b)
      | _ => true) &&
    (List.finRange 12).all (fun v => s.fd.vehicles[v].load.all (fun n => s.locOf n == some (.vehicle v)) &&
      (s.fd.vehicles[v].enrolled || s.fd.vehicles[v].load.isNone)) &&
    (List.finRange 24).all (fun st => [Arm.a, Arm.b].all (fun arm =>
      (s.ssq[st].armRoll arm).all (fun n => s.locOf n == some (.stand st arm))))

theorem agrees_of_check (r : RollRec) (h : agreesCheck r = true) : r.Agrees := by
  unfold agreesCheck at h
  unfold RollRec.Agrees
  cases hs : r.state <;> cases hl : r.loc <;> simp_all [Option.isSome_iff_ne_none]

theorem tables_of_check (s : State) (h : tablesCheck s = true) : s.su.TablesOk := by
  simpa [tablesCheck, StoreUnit.TablesOk, and_assoc] using h

theorem standsThere_of_locOf (s : State) (n : Nat) (loc : Loc) (h : s.su.rolls.all (standsThere s) = true)
    (hl : s.locOf n = some loc) : ∃ r, r.num = n ∧ r.loc = loc ∧ standsThere s r = true := by
  simp only [State.locOf, State.roll?, StoreUnit.roll?, Option.map_eq_some_iff] at hl
  obtain ⟨r, hr, rfl⟩ := hl
  exact ⟨r, by simpa using List.find?_some hr, rfl, List.all_eq_true.mp h r (List.mem_of_find?_eq_some hr)⟩

theorem placesOk_of_check (s : State) (h : placesCheck s = true) : s.PlacesOk := by
  simp only [placesCheck, Bool.and_eq_true, List.all_eq_true] at h
  obtain ⟨⟨⟨⟨⟨ht, hr⟩, hlane⟩, hbay⟩, hveh⟩, hstand⟩ := h
  have there : s.su.rolls.all (standsThere s) = true := List.all_eq_true.mpr (fun r m => (hr r m).2)
  refine ⟨tables_of_check s ht, fun r m => agrees_of_check r (hr r m).1, ?_, ?_, ?_, ?_, ?_⟩
  · intro l d n
    constructor
    · intro e
      have hd : d < (s.su.laneList l).length := (List.getElem?_eq_some_iff.mp e).1
      have hl : l < s.su.lanes.length := by
        rcases Nat.lt_or_ge l s.su.lanes.length with c | c
        · exact c
        · simp [StoreUnit.laneList, List.getElem?_eq_none c] at hd
      have := hlane l (List.mem_range.mpr hl) d (List.mem_range.mpr hd)
      simpa [e] using this
    · intro e
      obtain ⟨r, rfl, hl, h⟩ := standsThere_of_locOf s n _ there e
      simpa [standsThere, hl] using h
  · intro b n
    constructor
    · intro e
      have := hbay b (List.mem_finRange b)
      simp only [e] at this
      simpa using this
    · intro e
      obtain ⟨r, rfl, hl, h⟩ := standsThere_of_locOf s n _ there e
      simpa [standsThere, hl] using h
  · intro v n
    constructor
    · intro e
      have := (hveh v (List.mem_finRange v)).1
      simp only [e] at this
      simpa using this
    · intro e
      obtain ⟨r, rfl, hl, h⟩ := standsThere_of_locOf s n _ there e
      simpa [standsThere, hl] using h
  · intro v e
    have := (hveh v (List.mem_finRange v)).2
    simp only [e] at this
    simpa using this
  · intro st arm n
    constructor
    · intro e
      have := hstand st (List.mem_finRange st) arm (by cases arm <;> simp)
      simp only [e] at this
      simpa using this
    · intro e
      obtain ⟨r, rfl, hl, h⟩ := standsThere_of_locOf s n _ there e
      simpa [standsThere, hl] using h

theorem scene_placesOk : scene.PlacesOk := placesOk_of_check scene (by decide)

/-! ## WellFormed: each check refuses an ill-formed command -/

theorem test_wf_frame : (Instr.frameComplete ⟨1, 0, List.replicate 1023 0⟩).wf = false := by decide +kernel
theorem test_wf_four_bytes : (Instr.timeSet 4294967296).wf = false ∧ (Instr.rollHold 4294967296).wf = false := by decide
theorem test_wf_one_byte : (Instr.resetMotion 256).wf = false ∧ (Instr.laneBlock 256).wf = false ∧
    (Instr.vehicleRecover 0 256).wf = false ∧ (Instr.doorConfig 0 (some 256) none).wf = false := by decide
theorem test_wf_two_bytes : (Instr.gradeSet 0 65536).wf = false ∧ (Instr.taskCancel 65536).wf = false := by decide
theorem test_wf_masks : (Instr.noticeMask [(0, 65536)] none).wf = false := by decide
theorem test_wf_place : (Instr.rollIn 1 0 (some .full) 80 100 100 (some (.lane 256))).wf = false := by decide
theorem test_wf_list : (Instr.laneSet 0 (List.replicate 256 1)).wf = false ∧ (Instr.storeConfig [256] 1).wf = false := by
  decide +kernel
theorem test_wf_content : (Instr.baySet 0 (some (.roll 4294967296))).wf = false := by decide
theorem test_wf_stand_config :
    (Instr.standConfig 0 (some .present) ⟨none, none, none, none, none, some 256, none, none⟩).wf = false := by decide
theorem test_wf_press_config : (Instr.pressConfig 0 ⟨none, some 65536, none, none, none, none⟩).wf = false := by decide
theorem test_wf_assignment : (Instr.standAssign 0 (some (256, none))).wf = false := by decide
theorem test_wf_plan : (Instr.floorNode 0 (some (.stand 256)) none).wf = false ∧
    (Instr.floorSegment 0 0 1 1 (some (.door 256)) none).wf = false ∧ (Instr.floorQuery (some (.route 256))).wf = false := by
  decide
theorem test_wf_fleet : (Instr.fleetConfig ⟨none, some 65536, none, none, none⟩).wf = false ∧
    (Instr.taskQuery (some (.one 65536))).wf = false := by decide
theorem test_wf_measurement : (Instr.measureReset 0 0).wf = false ∧ (Instr.measureReset 0 65536).wf = false := by decide
theorem test_wf_tag : (Instr.pickFailed 0 (.roll 0)).wf = false := by decide
theorem test_wf_good : (Instr.rollIn 4294967295 15 (some .half) 65535 65535 65535 (some (.bay 7))).wf = true ∧
    (Instr.measureReset 23 65535).wf = true := by decide

/-! ## Worked figures -/

/-- Published check values of the two CRCs over the digits 1 to 9 (polynomials and initial values of R184, R158). -/
theorem test_crc_check_values : crc16 ((List.range 9).map (fun i => byteOf (0x31 + i))) = 0x29B1 ∧
    crc8 ((List.range 9).map (fun i => byteOf (0x31 + i))) = 0xF4 := by decide +kernel

/-- The state of 3.1's example before its fourth tick. -/
def fourthTick : State :=
  State.reset.setPressProj 1 { PressProj.reset with scale := 1024, carry := 184, position := 34 }

/-- 3.1, "conversion with a carry": tick 4 advances 10 mm and leaves 944. -/
theorem test_web_advance : (after (.webAdvance 1 11) fourthTick).pju.press[(1 : Fin 4)].position = 44 ∧
    (after (.webAdvance 1 11) fourthTick).pju.press[(1 : Fin 4)].carry = 944 := by decide

/-- 3.4, worked cases 1 and 2. -/
theorem test_remaining_length : (rollAt 1 .running .none none).lengthAt 3768 = 14024760 ∧
    (rollAt 1 .running .none none).lengthAt 700 = 389336 ∧ timeToSplice 14024760 80 11000 = 1267 ∧
    timeToSplice 389336 80 6000 = 51 ∧ deliveryDeadline 1000 1267 40 180 = 2047 ∧ deliveryDeadline 1000 51 40 180 = 1000 := by
  decide

/-- 3.3, "the first turns of a running roll": pulses 5, 6 and 8. -/
theorem test_circumference_ring :
    (({ StandProj.reset with ring := [3770, 3768, 3769, 3767] }.measure 3766).1.mean? = some 3767) ∧
    ({ StandProj.reset with ring := [3768, 3769, 3767, 3766] }.measure 3900).2 = .rejected ∧
    ({ StandProj.reset with ring := [3768, 3769, 3767, 3766], rejects := 2 }.measure 3902).1.ring = [3902] ∧
    (rollAt 1 .running .none none).lengthAt 3902 = 14500000 := by decide

/-- 3.5, "matching a fresh standby roll": the expected circumference, pulse 5 and pulse 6. -/
theorem test_standby_match : (rollAt 1 .standby .none none).expectedCirc = 3830 ∧
    matchTest (some 3870) 3832 5 3830 = .nothing ∧ matchTest (some 3832) 3829 5 3830 = .matched ∧
    matchTest (some 3900) 3897 5 3830 = .mismatched ∧ ((rollAt 1 .standby .none none).matchedAt 3829).stripped = some 14 := by
  decide

/-- The door of 2.6's example at 1,420, N = 5 and W = 600, at a later hall time. -/
def busyDoor (t : Nat) : State :=
  let s := State.reset
  { s with
    clk := ⟨0, t⟩
    su := { s.su with doors := s.su.doors.set 0 ⟨5, 600, [1250, 1300, 1412], some 1100, [], [], false⟩ } }

/-- 2.6, "door 0 over a busy quarter hour": 1,450 and 1,700. -/
theorem test_door : ((busyDoor 1450).askDoor 0 3).2 = false ∧
    ((busyDoor 1450).askDoor 0 3).1.nu.entries[(2 : Fin 44)].pending = 1 ∧ ((busyDoor 1700).askDoor 0 3).2 = true ∧
    ((busyDoor 1700).askDoor 0 3).1.su.doors[(0 : Fin 2)].openings = [1250, 1300, 1412, 1700] := by decide

/-- 2.3's example at tick 95,000: lane 0 here, BLOCKED and SUSPECT, 102 and 103 in it. -/
def suspectLane : State :=
  let s := State.reset
  { s with su := { s.su with
      rolls := [rollAt 102 .ready (.lane 0 0) none, rollAt 103 .ready (.lane 0 1) none]
      lanes := [⟨4, .idle, true, true, some (.roll 103), [102, 103]⟩] } }

theorem test_lane_set : (after (.laneSet 0 [103, 102]) suspectLane).su.lanes = [⟨4, .idle, true, false, none, [103, 102]⟩] ∧
    ((after (.laneSet 0 [103, 102]) suspectLane).roll? 102).map (·.loc) = some (.lane 0 1) := by decide

/-- 9.3, "a change of edge while counting": the third COPY edge. -/
def halfCopy : State :=
  State.reset.setCount 2 { CountRec.reset with pulses := 2, prescaler := 1, pendPulses := some 1, pendEdge := some .both }

theorem test_copy_pulse : (after (.copyPulse 2 .falling false) halfCopy).cu[(2 : Fin 4)].prescaler = 1 ∧
    (after (.copyPulse 2 .rising false) halfCopy).cu[(2 : Fin 4)].edge = .both ∧
    (after (.copyPulse 2 .rising false) halfCopy).cu[(2 : Fin 4)].totals.gross = 1 := by decide

/-- 9.9, "a splice, a web break and a restart", before copy 1,204,041. -/
def spliced : State :=
  State.reset.setCount 1 { CountRec.reset with
    totals := ⟨1204040, 1180040, 24000, 6000, 12000, 4000, 1000, 1000, 0⟩, edition := ⟨40, 40, 0, 0, 0, 0, 0, 0, 0⟩
    splices := [⟨9, 700131, 1204000⟩], lastRun := 56, target := 50000, allowance := 300 }

theorem test_copy_complete : (after (.copyComplete 1 true) spliced).cu[(1 : Fin 4)].ring =
      [⟨57, 1204041, 1, .splice, some (9, 700131), true⟩] ∧
    (after (.copyComplete 1 true) spliced).cu[(1 : Fin 4)].totals.splice = 4001 := by decide

/-- 10.3, "one stand source through a splice": the fetch after SPLICED. -/
theorem test_fetch :
    ((State.reset.nu.setEntry 17 ⟨0x22, 0x02, false, false⟩).fetch 17).entries[(17 : Fin 44)] = ⟨0x20, 0x20, false, false⟩ := by
  decide

/-- IDENTIFY as a frame (R184, R189): request kind 0x01, reply kind 0x81, the part number first. -/
theorem test_identify : requestOf ⟨0x01, 7, []⟩ = .inr .identify ∧ requestOf ⟨0x81, 7, []⟩ = .inl .unknownKind ∧
    (replyFrame ⟨0x01, 7, []⟩ (reqIdentify State.reset).2).take 8 = [0xA5, 41, 0, 0x81, 7, 0, 0xC0, 0x08] := by decide

/-- A GO on the Fleet Link (R158): end node 5, segments 3 and 200 below 192, count 1, no event yet. -/
theorem test_go : ((after (.visit 0) (scene.setLink 0 { LinkRec.reset with
    order := some (.go [3, 19] 5), count := 1, echoed := false })).fl.sent.map (·.take 9)) =
    some [0x5C, 0, 1, 1, 0xFF, 3, 5, 3, 19] := by decide

/-! ## Witnesses: the hypotheses of the statements, met by concrete states and operands -/

theorem witness_StepRunsTheFrontCommand : { scene with pending := [.identify, .attention] }.pending = .identify :: [.attention] :=
  rfl

theorem witness_EveryCommandRuns : Instr.identify ≠ .hardwareReset true false ∧ scene.roll? 999 = none ∧
    scene.roll? 101 = some (rollAt 101 .ready (.lane 0 0) none) := by decide

theorem witness_AnIdleStepIsOneTick : scene.pending = [] ∧ scene.clp.buffer = [] ∧ (scene.clk.tick + 1) % 1000 ≠ 0 ∧
    ({ scene with clk := ⟨50999, 50⟩ }.clk.tick + 1) % 1000 = 0 := by decide

/-- The receiver in a state, its last byte taken `ago` ticks before. -/
def rx (x : Rx) (ago : Nat) : State := { scene with clp := { scene.clp with rx := x, rxTick := scene.clk.tick - ago } }

theorem witness_ReceiverTakesBytesByItsState : (rx .hunt 0).clp.rx = .hunt ∧
    ((rx (.length none) 6).clp.rx ≠ .hunt ∧ 5 < (rx (.length none) 6).clk.tick - (rx (.length none) 6).clp.rxTick) ∧
    ((rx (.length none) 5).clp.rx = .length none ∧ ¬5 < (rx (.length none) 5).clk.tick - (rx (.length none) 5).clp.rxTick) ∧
    (rx (.length (some 2)) 5).clp.rx = .length (some 2) ∧ (rx (.body 2 [1]) 5).clp.rx = .body 2 [1] ∧
    (rx (.check [1, 0] none) 5).clp.rx = .check [1, 0] none ∧
    (rx (.check [1, 0] (some 3)) 5).clp.rx = .check (1 :: 0 :: []) (some 3) := by decide

/-- The line with a frame buffered and `n` replies waiting. -/
def waitingFrame (f : ClFrame) (n : Nat) : State :=
  { scene with clp := { scene.clp with buffer := [f], replies := List.replicate n [0xA5] } }

theorem witness_RequestTakeAnswersTheOldestFrame : scene.clp.buffer = [] ∧ 2 ≤ (waitingFrame ⟨1, 0, []⟩ 2).clp.replies.length ∧
    (waitingFrame ⟨1, 0, []⟩ 1).clp.replies.length < 2 ∧ requestOf ⟨0x7F, 0, []⟩ = .inl .unknownKind ∧
    requestOf ⟨1, 0, [0]⟩ = .inl .badFrame ∧ requestOf ⟨1, 0, []⟩ = .inr .identify ∧ 0x7F ∉ [0x01, 0x6C] := by decide

theorem witness_RequestTake_request : scene.request? .identify = some (reqIdentify scene) := rfl

/-- Payloads written out from R187 and the owning rules: ROLL EDIT naming its caliper, TASK MOVE with a bay and a deadline, LANE SET
of two rolls; a length too short, a presence bit with no field, a presence byte of 2 and an unknown node kind are no requests. -/
theorem test_payloads : requestOf ⟨0x11, 0, [101, 0, 0, 0, 4, 0, 90, 0]⟩ = .inr (.rollEdit 101 none none (some 90) none none) ∧
    requestOf ⟨0x64, 0, [2, 9, 1, 1, 5, 1, 0, 1, 0, 0]⟩ = .inr (.taskMove 2 9 (some (some (.bay 5))) (some 256)) ∧
    requestOf ⟨0x18, 0, [1, 2, 5, 0, 0, 0, 6, 0, 0, 0]⟩ = .inr (.laneSet 1 [5, 6]) ∧
    requestOf ⟨0x11, 0, [101, 0, 0, 0, 4, 0, 90]⟩ = .inl .badFrame ∧
    requestOf ⟨0x11, 0, [101, 0, 0, 0, 32, 0, 90, 0]⟩ = .inl .badFrame ∧ requestOf ⟨0x63, 0, [0, 2]⟩ = .inl .badFrame ∧
    requestOf ⟨0x50, 0, [0, 8, 0]⟩ = .inl .badFrame := by decide

/-- The scene with source 5 in the transmit set, its reason fetched meanwhile, and a reason pending at source 17, announced and
waiting behind it. -/
def announced (replies : List (List Byte)) : State :=
  { scene with
    nu := (scene.nu.setEntry 5 ⟨0, 0, true, true⟩).setEntry 17 ⟨0x100, 0, true, true⟩
    clp := { scene.clp with replies := replies, tx := some [0xA5] } }

theorem witness_TransmitterPrefersReplies : (announced [[1]]).clp.replies = [1] :: [] ∧ (announced []).clp.replies = [] ∧
    (announced []).nu.entries[(17 : Fin 44)].queued = true ∧
    (announced []).nu.entries[(17 : Fin 44)].pending &&& (announced []).nu.masks[kindOf 17] ≠ 0 ∧
    (announced []).nu.entries[(5 : Fin 44)].queued = true ∧
    (∀ j : Fin 44, j < 17 → (announced []).nu.entries[j].queued = true →
      (announced []).nu.entries[j].pending &&& (announced []).nu.masks[kindOf j] = 0) ∧
    ∀ i : Fin 44, scene.nu.entries[i].queued = true → scene.nu.entries[i].pending &&& scene.nu.masks[kindOf i] = 0 := by
  decide +kernel

theorem witness_TimeSet : 4294967295 ≤ 4294967295 ∧ (State.reset.su.rolls = [] ∧ State.reset.fd.fleet = .stopped) ∧
    ¬(scene.su.rolls = [] ∧ scene.fd.fleet = .stopped) := by decide

theorem witness_MotionReset : 2 ≠ 1 ∧ (scene.ssq[(0 : Stand)].present = true ∧ scene.ssq[(0 : Stand)].state ≠ .pasting) ∧
    (stand (fun r => { r with state := .pasting })).ssq[(0 : Stand)].state = .pasting ∧
    (let r := (veh (fun r => { r with state := some .picking, phase := .reading, work := some (.bay 0) })).fd.vehicles[(0 : Vehicle)]
     r.state = some .picking ∧ r.phase = .reading ∧ r.work = some (.bay 0) ∧ r.halted = false) ∧
    (let r := (veh (fun r => { r with state := some .picking, phase := .reading, work := some (.lane 1) })).fd.vehicles[(0 : Vehicle)]
     r.state = some .picking ∧ r.halted = false ∧ r.phase = .reading ∧ r.work = some (.lane 1)) ∧
    (let s := (veh (fun r => { r with state := some .waiting, phase := .stalled })).setLocks { scene.lu with
      nodes := scene.lu.nodes.set 1 (some ⟨.laneHead 1, none⟩) }
     let r := s.fd.vehicles[(0 : Vehicle)]
     s.su.lanes[1]?.map (·.motion) = some (.opened 0) ∧ r.state = some .waiting ∧ r.workBegun = false ∧ r.halted = false ∧
      r.node = some 1 ∧ s.lu.nodes[(1 : Node)] = some ⟨.laneHead 1, none⟩) := by decide

theorem witness_Raise :
    let s : State := { scene with nu := { scene.nu with enable := true } }
    s.nu.enable = true ∧ s.nu.entries[(0 : Fin 44)].announced = false ∧ (1#16 : ReasonSet) &&& s.nu.masks[kindOf 0] ≠ 0 := by
  decide

theorem witness_Fetches : (announced []).clp.tx.isSome = true ∧ 1 < 2 ∧ 3 < 4 ∧ 23 < 24 ∧ 11 < 12 := by decide

theorem witness_NoticeMask : ¬([(0, 1), (0, 2)].map (·.1)).Nodup ∧ (some none : Option (Option Bool)) = some none ∧ 6 ≤ 6 ∧
    65536 ≤ 65536 ∧ ¬within (BitVec.ofNat 16 8) (kindSet 0) ∧ ([(0, 7), (5, 0)].map (·.1)).Nodup ∧
    (∀ x ∈ [(0, 7), (5, 0)], ∃ k : Fin 6, k.val = x.1 ∧ x.2 < 65536 ∧ within (BitVec.ofNat 16 x.2) (kindSet k)) ∧
    (announced []).nu.enable = false ∧ { scene.nu with enable := true }.enable = true ∧
    (let e := (scene.nu.setEntry 0 ⟨1, 0, false, false⟩).entries[(0 : Fin 44)]
     e.announced = false ∧ e.pending &&& scene.nu.masks[kindOf 0] ≠ 0) := by
  unfold within
  decide

/-! ### Rolls -/

/-- A Roll Table of `n` records, all SPENT. -/
def spentRolls (n : Nat) : State :=
  { scene with su := { scene.su with rolls := (List.range n).map (fun i => rollAt (i + 1) .spent .none none) } }

theorem witness_RollIn_full : (spentRolls 512).roll? 9999 = none ∧ 512 ≤ (spentRolls 512).su.rolls.length ∧
    (spentRolls 511).su.rolls.length < 512 := by
  refine ⟨List.find?_eq_none.mpr ?_, by simp [spentRolls], by simp [spentRolls]⟩
  simp only [spentRolls, List.mem_map, List.mem_range]
  rintro r ⟨i, hi, rfl⟩
  simp only [rollAt, beq_iff_eq]
  omega

theorem witness_RollIn : 15 < 16 ∧ scene.su.lanes.length ≤ 3 ∧ 7 < 8 ∧ (scene.roll? 101).isSome ∧ scene.roll? 200 = none ∧
    (scene.su.lanes[1]?.map (·.motion) = some (.opened 0)) ∧
    (scene.su.lanes[2]?.map (fun l => decide (l.depth ≤ l.list.length)) = some true) ∧
    (scene.su.lanes[0]?.map (fun l => decide (l.motion = .idle ∧ l.list.length < l.depth)) = some true) ∧
    scene.su.bays[(0 : Fin 8)].state ≠ .free ∧ scene.su.bays[(7 : Fin 8)].state = .free ∧ (15 : Fin 16).val = 15 := by decide

theorem witness_RollEdit : scene.roll? 200 = none ∧ scene.su.rollState? 102 = some .reserved ∧
    scene.su.rollState? 101 = some .ready ∧ scene.su.rollState? 104 = some .conditioning ∧ 15 < 16 ∧ 15 ≤ 15 := by decide

theorem witness_RollHoldAndFree : scene.roll? 200 = none ∧ (scene.roll? 101).map (·.mark) = some .normal ∧
    ((scene.modRoll 101 (fun r => { r with mark := .held })).roll? 101).map (·.mark) = some .held ∧
    (scene.roll? 102).map (fun r => (r.state, r.reservation)) = some (.reserved, some 1) := by decide

theorem witness_TablesOk : scene.su.TablesOk := scene_placesOk.1

theorem witness_RollClose : scene.roll? 200 = none ∧ scene.su.rollState? 101 ≠ some .spent ∧
    scene.su.rollState? 109 = some .spent := by decide

theorem witness_PlainQueries : scene.roll? 200 = none ∧ (scene.roll? 101).isSome ∧ scene.su.lanes.length ≤ 3 ∧
    (scene.su.lanes[2]?).isSome ∧ 3 < 4 ∧ 127 < 128 ∧ 191 < 192 ∧ 255 < 256 ∧ scene.task? 1 = none ∧
    ((scene.setTasks [task .check]).task? 1).isSome ∧ 31 < 32 ∧ scene.PlacesOk := ⟨by decide, by decide, by decide, by decide,
  by decide, by decide, by decide, by decide, by decide, by decide, by decide, scene_placesOk⟩

theorem witness_GradeAndDoor : 15 < 16 ∧ (15 : Fin 16).val = 15 ∧ 1 < 2 ∧ (1 : Fin 2).val = 1 := by decide

/-! ### Lanes, bays -/

/-- The scene with another record of lane 2, whose list is roll 104. -/
def lane2 (f : LaneRec → LaneRec) : State := scene.setStore (scene.su.modLane 2 f)

theorem witness_LaneSet : scene.su.lanes.length ≤ 3 ∧ 24 < (List.range 25).length ∧ (List.range' 1 24).length ≤ 24 ∧
    ¬[101, 101].Nodup ∧ scene.su.lanes[0]?.map (·.blocked) = some false ∧
    (lane2 (fun l => { l with motion := .clearing 1 })).su.lanes[2]?.map (·.motion) = some (.clearing 1) ∧
    scene.su.lanes[2]?.map (fun l => (l.blocked, l.motion, l.depth)) = some (true, .idle, 1) ∧ 1 < [101, 105].length ∧
    scene.roll? 200 = none ∧ scene.su.rollState? 109 = some .spent ∧ scene.su.rollState? 106 = some .carried ∧
    (scene.roll? 103).map (·.loc) = some (.lane 1 0) ∧ scene.su.lanes[1]?.map (·.motion) = some (.opened 0) ∧
    (scene.roll? 101).map (fun r => (r.state, r.loc)) = some (.ready, .lane 0 0) ∧
    (scene.roll? 104).map (·.loc) = some (.lane 2 0) ∧ scene.su.lanes[2]?.map (·.suspect) = some true ∧
    (scene.roll? 105).map (·.loc) = some (.bay 0) := by decide

theorem witness_LaneBlockAndUnblock : scene.PlacesOk ∧ scene.su.lanes.length ≤ 3 ∧
    scene.su.lanes[0]?.map (·.blocked) = some false ∧ scene.su.lanes[2]?.map (·.blocked) = some true ∧
    102 ∈ scene.su.laneList 0 := ⟨scene_placesOk, by decide⟩

theorem witness_LaneRelease : scene.su.lanes.length ≤ 3 ∧
    (lane2 (fun l => { l with motion := .clearing 50001 })).su.lanes[2]?.map (·.motion) = some (.clearing 50001) ∧
    scene.su.lanes[0]?.map (·.motion) = some .idle ∧ scene.su.lanes[1]?.map (·.motion) = some (.opened 0) := by decide

theorem witness_StoreConfig : 16 < (List.replicate 17 1).length ∧ (List.replicate 16 24).length ≤ 16 ∧
    (∃ r ∈ scene.su.lanes, r.motion ≠ .idle) ∧ (∀ r ∈ suspectLane.su.lanes, r.motion = .idle) ∧
    (suspectLane.su.lanes[0]?.map (·.list.length)) = some 2 := by
  refine ⟨by decide, by decide, ⟨_, List.mem_cons_of_mem _ List.mem_cons_self, by decide⟩, by decide, by decide⟩

/-- The scene with a bay node 3 that vehicle 0 holds. -/
def heldBay : State :=
  { scene with lu := { scene.lu with
      nodes := scene.lu.nodes.set 3 (some ⟨.bay 7, none⟩), nodeLocks := scene.lu.nodeLocks.set 3 (some 0) } }

theorem witness_BaySet_held : ∃ n : Node, (∃ r, heldBay.lu.nodes[n] = some r ∧ r.kind = .bay 7) ∧ heldBay.lu.nodeLocks[n] ≠ none :=
  ⟨3, ⟨_, rfl, rfl⟩, by decide⟩

theorem witness_BaySet : 7 < 8 ∧ scene.PlacesOk ∧ (∀ n : Node, scene.lu.nodeLocks[n] = none) ∧
    (scene.setStore { scene.su with bays := scene.su.bays.set 7 ⟨.reserved 1, true, none⟩ }).su.bays[(7 : Fin 8)].state = .reserved 1 ∧
    scene.roll? 200 = none ∧ scene.su.rollState? 109 = some .spent ∧ scene.su.rollState? 106 = some .carried ∧
    (scene.roll? 103).map (·.loc) = some (.lane 1 0) ∧ (scene.roll? 101).map (·.state) = some .ready ∧
    scene.su.bays[(0 : Fin 8)].state = .occupied 105 ∧ scene.su.bays[(0 : Fin 8)].suspect = false ∧ BayContent.empty ≠ .roll 105 ∧
    BayContent.roll 101 ≠ .roll 105 ∧ (0 : Fin 8) ≠ 7 ∧ (scene.roll? 105).map (·.loc) = some (.bay 0) ∧
    (scene.roll? 104).map (·.loc) = some (.lane 2 0) ∧ scene.su.lanes[2]?.map (·.suspect) = some true :=
  ⟨by decide, scene_placesOk, by simp [scene, State.reset, State.afterReset, LockUnit.reset], by decide⟩

/-! ### Projection -/

/-- The scene with a press 0 whose encoder scale is 4,000 counts a metre. -/
def fine : State := scene.setPressProj 0 { PressProj.reset with scale := 4000 }

theorem witness_WebAdvance : scene.PlacesOk ∧ fine.PlacesOk ∧
    (3 * 1000 + fine.pju.press[(0 : Press)].carry) / fine.pju.press[(0 : Press)].scale = 0 ∧
    (4 * 1000 + fine.pju.press[(0 : Press)].carry) / fine.pju.press[(0 : Press)].scale = 1 ∧
    scene.ssq[(0 : Stand)].runningRoll? = some 107 ∧ (scene.roll? 107).isSome ∧
    (scene.pins[(0 : Press)].run && scene.ssq[(0 : Stand)].running.isSome && scene.ssq[(0 : Stand)].state != .fault &&
      !scene.pju.stand[(0 : Stand)].indexFault) = true ∧ 5000 ≤ scene.pju.stand[(0 : Stand)].faultDist + 5000 ∧
    ¬5000 ≤ scene.pju.stand[(0 : Stand)].faultDist + 4999 :=
  ⟨scene_placesOk, placesOk_of_check _ (by decide), by decide⟩

/-- The scene with stand 0 in a state and its running roll at a length. -/
def standAt (st : StandState) (mm : Nat) : State := (running mm).modStand 0 (fun r => { r with state := st })

theorem witness_WebAdvanceTests : (standAt .matched 30002).PlacesOk ∧ (standAt .matched 30002).ssq[(0 : Stand)].present = true ∧
    (standAt .matched 30002).ssq[(0 : Stand)].runningRoll? = some 107 ∧
    ((standAt .matched 30002).roll? 107).map (·.remaining) = some 30002 ∧
    (1 ≤ (1 * 1000 + (standAt .matched 30002).pju.press[pressOf 0].carry) / (standAt .matched 30002).pju.press[pressOf 0].scale) ∧
    (standAt .matched 30002).ssq[(0 : Stand)].state = .matched ∧
    ¬30002 - 1 ≤ (standAt .matched 30002).pju.stand[(0 : Stand)].force.minReserve * 1000 ∧
    30002 - 1 ≤ (standAt .matched 30002).pju.stand[(0 : Stand)].force.reserve * 1000 ∧
    (standAt .matched 80002).pju.stand[(0 : Stand)].force.reserve * 1000 < 80002 - 1 ∧
    30001 - 1 ≤ (standAt .fault 30001).pju.stand[(0 : Stand)].force.minReserve * 1000 ∧
    (standAt .armed 30002).ssq[(0 : Stand)].state ≠ .matched ∧ (standAt .pasting 1).ssq[(0 : Stand)].state ∈ [.empty, .pasting, .runout] :=
  ⟨placesOk_of_check _ (by decide), by decide⟩

theorem witness_WebCopyIndexFaultMeasureReset :
    (scene.ssq[(0 : Stand)].present = true ∧ scene.pins[pressOf 0].run = true ∧ scene.ssq[(0 : Stand)].running ≠ none ∧
      scene.ssq[(0 : Stand)].state ≠ .fault ∧ scene.pju.stand[(0 : Stand)].indexFault = false) ∧
    scene.ssq[(1 : Stand)].present = false ∧ 1 ≤ 1 ∧ 65535 ≤ 65535 ∧
    (scene.setCount 0 { CountRec.reset with remainder := 560 }).cu[(0 : Press)].cutOff ≤
      (scene.setCount 0 { CountRec.reset with remainder := 560 }).cu[(0 : Press)].remainder := by decide

theorem witness_BucketBoundary : scene.ssq[(1 : Stand)].running = none ∧ scene.ssq[(0 : Stand)].runningRoll? = some 107 ∧
    (scene.roll? 107).isSome := by decide

/-- The scene with a projection record of stand 0. -/
def proj (f : StandProj → StandProj) : State := scene.modProj 0 f

theorem witness_RunningIndexPulse : scene.ssq[(1 : Stand)].present = false ∧ scene.ssq[(0 : Stand)].running ≠ some .b ∧
    scene.ssq[(0 : Stand)].state ≠ .accelerating ∧ scene.ssq[(0 : Stand)].present = true ∧
    scene.ssq[(0 : Stand)].running = some .a ∧
    (∀ m ∈ [1, 65535], (proj (fun q => { q with runPhase := .counting, runPeriod := m })).pju.stand[(0 : Stand)].period? = some m) ∧
    (proj (fun q => { q with ring := [3902], rejects := 2 })).pju.stand[(0 : Stand)].accepts 3768 = false := by decide

/-- The scene in ACCELERATING, its standby arm counting. -/
def accelerating (prev : Option Nat) (w : Nat) : State :=
  (stand (fun r => { r with state := .accelerating, timer := some (.accel, 75000) })).modProj 0 (fun q =>
    { q with sbPhase := .counting, prevW := prev, sbPeriod := w, expected := some 3830 })

theorem witness_StandbyIndexPulse :
    ((accelerating none 9).ssq[(0 : Stand)].present = true ∧ (accelerating none 9).ssq[(0 : Stand)].running = some .a ∧ Arm.a ≠ .b ∧
      (accelerating none 9).ssq[(0 : Stand)].state = .accelerating) ∧
    ((accelerating none 9).modProj 0 (fun q => { q with sbPhase := .discard })).pju.stand[(0 : Stand)].sbPhase = .discard ∧
    65535 < (accelerating none 65536).pju.stand[(0 : Stand)].sbPeriod ∧ (accelerating none 65535).pju.stand[(0 : Stand)].prevW = none ∧
    (max 3829 3832 - min 3829 3832) * 1000 ≤ scene.ssq[(0 : Stand)].cfg.matchWindow * 3829 ∧
    3849 ≤ 3830 * (1000 + scene.ssq[(0 : Stand)].cfg.matchWindow) / 1000 ∧
    3830 * (1000 + scene.ssq[(0 : Stand)].cfg.matchWindow) / 1000 < 3850 ∧
    scene.ssq[(0 : Stand)].cfg.matchWindow * 4020 < (max 4020 4410 - min 4020 4410) * 1000 ∧
    scene.ssq[(0 : Stand)].standbyRoll? = some 108 ∧ scene.ssq[(0 : Stand)].runningRoll? ≠ some 108 ∧ (scene.roll? 108).isSome := by
  decide

/-- The scene with stand 0 in a state, AUTO as given, its index measured at 3,768 mm over a core of 100 mm. -/
def measured (st : StandState) (auto : Bool) (pend : Option Reserves) (f : RollRec → RollRec) : State :=
  (((stand (fun r => { r with state := st, auto := auto })).modProj 0 (fun q => { q with
    runPhase := .counting, runPeriod := 3768, time := some 40, pend := pend }))).modRoll 107 f

/-- At a measured length: run-out, the paste test, the acceleration test (MEASURE_RESET and the running index pulse). -/
theorem witness_MeasuredLength :
    (let s := measured .matched true none (fun r => { r with caliper := 1000, core := 1190 })
     let len := (((s.indexPulse 0 .a).roll? 107).map (·.remaining)).getD 0
     s.pju.stand[(0 : Stand)].ring = [] ∧ len ≤ s.pju.stand[(0 : Stand)].force.minReserve * 1000) ∧
    (let s := measured .matched true none (fun r => { r with caliper := 1000, core := 1160 })
     let len := (((s.indexPulse 0 .a).roll? 107).map (·.remaining)).getD 0
     s.pju.stand[(0 : Stand)].force.minReserve * 1000 < len ∧ len ≤ s.pju.stand[(0 : Stand)].force.reserve * 1000) ∧
    (let s := measured .armed true (some ⟨80, 30, 40⟩) id
     s.ssq[(0 : Stand)].state = .armed ∧ s.ssq[(0 : Stand)].auto = true ∧ s.pins[pressOf 0].run = true ∧
      s.pju.stand[(0 : Stand)].pend = some ⟨80, 30, 40⟩ ∧ s.pju.stand[(0 : Stand)].time = some 40) ∧
    (measured .armed true none id).pju.stand[(0 : Stand)].pend = none ∧
    (after (.measureReset 0 3768) (measured .matched true none id)).ssq[(0 : Stand)].runningRoll? = some 107 := by decide

/-- At a match: the running roll at the minimum reserve, at the reserve, and above it. -/
theorem witness_MatchTests :
    (((accelerating (some 3829) 3829).modRoll 107 (fun r => { r with remaining := 30000 })).roll? 107).map (·.remaining) = some 30000 ∧
    (accelerating none 1).pju.stand[(0 : Stand)].force.minReserve * 1000 = 30000 ∧
    (accelerating none 1).pju.stand[(0 : Stand)].force.reserve * 1000 = 80000 ∧
    (accelerating none 1).ssq[(0 : Stand)].manual = false ∧
    ((accelerating none 1).modStand 0 (fun r => { r with manual := true })).ssq[(0 : Stand)].manual = true ∧
    (((accelerating (some 3829) 3829).modRoll 107 (fun r => { r with remaining := 80001 })).roll? 107).map (·.remaining) = some 80001 ∧
    (accelerating (some 3829) 3829).pju.stand[(0 : Stand)].prevW = some 3829 := by decide

/-! ### Stands -/

theorem witness_StandRequestsShare : 23 < 24 ∧ (0 : Stand).val = 0 ∧ scene.ssq[(1 : Stand)].present = false ∧
    (standAt .pasting 1).ssq[(0 : Stand)].present = true ∧ (standAt .pasting 1).ssq[(0 : Stand)].state = .pasting ∧
    scene.ssq[(0 : Stand)].present = true ∧ scene.ssq[(0 : Stand)].state ≠ .pasting ∧ 15 < 16 := by decide

theorem witness_StandConfig : (∀ k : Stand, scene.ssq[k].cfg.Ok) ∧
    (scene.ssq[(0 : Stand)].present = true → scene.ssq[(0 : Stand)].state ≠ .pasting) ∧ scene.ssq[(1 : Stand)].present = false ∧
    ((stand (fun _ => { StandRec.reset with present := true })).ssq[(0 : Stand)].present = true ∧
      (stand (fun _ => { StandRec.reset with present := true })).ssq[(0 : Stand)].state = .empty ∧
      (stand (fun _ => { StandRec.reset with present := true })).ssq[(0 : Stand)].loading = none ∧
      (stand (fun _ => { StandRec.reset with present := true })).fp.stands[(0 : Stand)].task = none) ∧
    scene.ssq[(0 : Stand)].state ≠ .empty := by
  unfold StandCfg.Ok Reserves.Ok
  decide

/-- The scene with AUTO on and a time to splice. -/
def timed (t : Nat) : State :=
  (stand (fun r => { r with auto := true })).modProj 0 (fun q => { q with time := some t })

theorem witness_StandSettings : (timed 40).ssq[(0 : Stand)].present = true ∧ (timed 40).ssq[(0 : Stand)].state ≠ .pasting ∧
    ((timed 40).ssq[(0 : Stand)].state = .armed ∧ (timed 40).pins[pressOf 0].run = true ∧ (timed 40).ssq[(0 : Stand)].running ≠ none ∧
      (timed 40).pju.stand[(0 : Stand)].time = some 40 ∧ 40 ≤ (timed 40).pju.stand[(0 : Stand)].force.lead) ∧
    ((timed 41).pju.stand[(0 : Stand)].time = some 41 ∧ ¬41 ≤ (timed 41).pju.stand[(0 : Stand)].force.lead) ∧
    (accelerating none 1).ssq[(0 : Stand)].state = .accelerating ∧ (standAt .matched 1).ssq[(0 : Stand)].state = .matched ∧
    15 < 16 ∧ 15 ≤ 15 := by decide

theorem witness_SpliceThreadEject :
    (scene.ssq[(0 : Stand)].present = true ∧ scene.ssq[(0 : Stand)].state ∈ [.armed, .accelerating, .matched] ∧
      scene.ssq[(0 : Stand)].running ≠ none ∧ scene.pins[pressOf 0].run = true ∧
      scene.pju.stand[(0 : Stand)].force.minReserve * 1000 ≤ 14500000) ∧
    (standAt .matched 30000).pju.stand[(0 : Stand)].force.minReserve * 1000 = 30000 ∧
    ¬(standAt .matched 29999).pju.stand[(0 : Stand)].force.minReserve * 1000 ≤ 29999 ∧
    (scene.ssq[(0 : Stand)].standbyRoll? = some 108 ∧ scene.su.rollState? 108 = some .standby) ∧
    (standAt .runout 1).ssq[(0 : Stand)].state = .runout ∧ scene.ssq[(0 : Stand)].runningRoll? ≠ some 108 ∧
    scene.ssq[(1 : Stand)].standbyRoll? = none := by decide

/-- Stand 0 in FAULT with its fault part. -/
def faulted : State := stand (fun r => { r with state := .fault, fault := some ⟨40, 0, false⟩ })

theorem witness_SpliceChangesTheRoles :
    ((standAt .pasting 1).ssq[(0 : Stand)].state = .pasting ∧ 50 = (standAt .pasting 1).clk.hall ∧
      0 = (standAt .pasting 1).cu[pressOf 0].totals.gross) ∧
    (faulted.ssq[(0 : Stand)].present = true ∧ faulted.ssq[(0 : Stand)].state = .fault ∧
      faulted.ssq[(0 : Stand)].fault = some ⟨40, 0, false⟩) ∧
    faulted.ssq[(0 : Stand)].runningRoll? = some 107 ∧ faulted.ssq[(0 : Stand)].standbyRoll? = some 108 ∧ 107 ≠ 108 := by decide

/-- R75: STAND RESOLVE answers OK, the state after and AUTO after, PASTED_YES with an AUTO-off pending and PASTED_NO without. -/
theorem test_resolve_reply :
    (reqStandResolve 0 (some .pastedYes) (faulted.modStand 0 (fun r => { r with auto := true, autoClear := true }))).2 =
      ⟨.ok, [2, 0]⟩ ∧
    (reqStandResolve 0 (some .pastedYes) (faulted.modStand 0 (fun r => { r with auto := true }))).2 = ⟨.ok, [2, 1]⟩ := by decide

/-- Stand 0 with a butt on its standby arm, the EJECT timer running. -/
def buttStand : State :=
  (stand (fun r => { r with state := .butt, timer := some (.eject, 90000) })).modRoll 108 (fun r =>
    { r with state := .butt, reservation := none })

/-- Stand 0 preparing. -/
def preparing (auto : Bool) : State := (timed 40).modStand 0 (fun r => { r with state := .preparing, auto := auto })

theorem witness_SequenceEvents : (scene.ssq[(0 : Stand)].state ≠ .pasting ∧ scene.ssq[(0 : Stand)].state ≠ .fault) ∧
    (faulted.ssq[(0 : Stand)].state = .fault ∧ faulted.ssq[(0 : Stand)].fault ≠ none ∧ faulted.ssq[(0 : Stand)].present = true) ∧
    (accelerating none 1).ssq[(0 : Stand)].state = .accelerating ∧ (standAt .pasting 1).ssq[(0 : Stand)].state = .pasting ∧
    buttStand.ssq[(0 : Stand)].timer = some (.eject, 90000) ∧ scene.ssq[(0 : Stand)].timer = none ∧
    ((preparing true).ssq[(0 : Stand)].state = .preparing ∧ (preparing true).ssq[(0 : Stand)].auto = true ∧
      (preparing true).pju.stand[(0 : Stand)].time = some 40 ∧ 40 ≤ (preparing true).pju.stand[(0 : Stand)].force.lead) ∧
    (preparing false).ssq[(0 : Stand)].auto = false ∧
    (buttStand.ssq[(0 : Stand)].standbyRoll? = some 108 ∧ buttStand.su.rollState? 108 = some .butt) ∧
    scene.su.rollState? 108 ≠ some .butt ∧ scene.ssq[(0 : Stand)].standbyRoll? = some 108 := by decide

theorem witness_PressEdges : (0 : Stand).val / 6 = (0 : Press).val ∧ (timed 40).ssq[(0 : Stand)].state = .armed ∧
    (timed 40).ssq[(0 : Stand)].auto = true ∧ (timed 40).pju.stand[(0 : Stand)].time = some 40 ∧
    scene.ssq[(0 : Stand)].auto = false := by decide

/-! ### Counting and feeding -/

/-- The scene with a count record of press 1. -/
def count (r : CountRec) : State := scene.setCount 1 r

theorem witness_CopiesCount : (count { CountRec.reset with edge := .none }).cu[(1 : Press)].edge = .none ∧
    (let full := count { CountRec.reset with totals := ⟨4294967295, 4294967295, 0, 0, 0, 0, 0, 0, 0⟩ }
     full.cu[(1 : Press)].edge ≠ .none ∧ full.cu[(1 : Press)].totals.gross = 4294967295) ∧
    (scene.cu[(1 : Press)].edge ≠ .none ∧ ¬(scene.cu[(1 : Press)].totals.gross = 4294967295 ∨
      scene.cu[(1 : Press)].edition.gross = 4294967295)) ∧
    (after (.copyComplete 1 true) spliced).cu[(1 : Press)].ring = [] ++ [⟨57, 1204041, 1, .splice, some (9, 700131), true⟩] ∧
    (∀ o ∈ spliced.cu[(1 : Press)].ring, o.isOpen = false) ∧ scene.cu[(0 : Press)].prescaler + 1 = scene.cu[(0 : Press)].pulses ∧
    (count { CountRec.reset with pulses := 4 }).cu[(1 : Press)].prescaler + 1 < 4 := by decide

theorem witness_CountRecOk : spliced.cu[(1 : Press)].Ok := by
  refine ⟨by unfold Scope.Ok; decide, by unfold Scope.Ok; decide, by decide, by decide, by decide, ?_, by decide, by decide, by decide, by decide,
    by decide, by decide, by decide⟩
  intro n h
  cases h

theorem witness_PressConfig : 3 < 4 ∧ (3 : Press).val = 3 ∧ (some none : Option (Option CopyEdge)) = some none ∧
    (none : Option (Option CopyEdge)) ≠ some none ∧ 4294967295 ≤ 4294967295 := by decide

theorem witness_Plate : 3 < 4 ∧ (some PlateAction.set : Option PlateAction) = some .set := by decide

theorem witness_PressRelease : 3 < 4 ∧
    (scene.setOrders 0 ⟨false, true, false⟩).fp.presses[(0 : Press)].stop = true ∧ scene.fp.presses[(0 : Press)].stop = false := by
  decide

/-! ### The hall second and the delays -/

/-- Vehicle 0 waits since tick 0, its hold mark as given. -/
def waiting (flag : Bool) : State :=
  { scene with lu := { scene.lu with waits := [⟨0, ⟨[⟨0, 0, 50, .none⟩], 1, 0, 0, false⟩, none, .pick, [], none, 0, flag, none⟩] } }

/-- What a tick finds due, and what is due one tick later. -/
theorem witness_AnIdleStep_due :
    ((rx (.length none) 6).clp.rx ≠ .hunt ∧ 5 < (rx (.length none) 6).clk.tick - (rx (.length none) 6).clp.rxTick) ∧
    ((lane2 (fun l => { l with motion := .clearing 50000 })).su.lanes[2]?.map (·.motion) = some (.clearing 50000)) ∧
    (∀ p ∈ [TimerPurpose.accel, .paste, .eject],
      (stand (fun r => { r with timer := some (p, 50000) })).ssq[(0 : Stand)].timer = some (p, 50000)) ∧
    ({ scene with fl := { scene.fl with visit := some ⟨0, 49980, 50000, false, false⟩ } } : State).fl.visit =
      some ⟨0, 49980, 50000, false, false⟩ ∧
    scene.clk.tick = 50000 ∧ 50000 % 100 = 0 ∧ 50000 % 400 = 0 ∧ 50000 % 400 = 32 * (0 : Vehicle).val ∧ 50000 % 1000 = 0 ∧
    50001 % 100 ≠ 0 ∧ 50001 % 400 ≠ 0 ∧ 50001 % 1000 ≠ 0 ∧ (∀ v : Vehicle, 50001 % 400 ≠ 32 * v.val) ∧
    (scene.setLink 0 { LinkRec.reset with wakeExpiry := some 50000 }).fl.links[(0 : Vehicle)].wakeExpiry = some 50000 ∧
    ((waiting false).lu.waiting? 0).map (·.since) = some 0 ∧
    scene.fd.holdTimeout * 1000 = 90000 ∧
    ({ waiting false with fd := { scene.fd with holdTimeout := 50 } } : State).fd.holdTimeout * 1000 ≤ 50000 - 0 := by decide

/-- Vehicle 0 with a counter at the last tick of its period, or one tick before it, and the delays at their second. -/
theorem witness_AnIdleStep_counts :
    (∀ n ∈ [899998, 899999], (veh (fun r => { r with interval := n })).fd.vehicles[(0 : Vehicle)].interval = n) ∧
    (899999 + 1 = scene.fd.chargeInterval * 60000 ∧ 179999 + 1 = scene.fd.topUpPeriod * 60000) ∧
    (let s := (veh (fun r => { r with state := some .charging, topUp := 179999 })).setLink 0 { LinkRec.reset with
        status := some ⟨.docked, none, false, true⟩ }
     s.fd.vehicles[(0 : Vehicle)].state = some .charging ∧ s.fd.vehicles[(0 : Vehicle)].topUp = 179999 ∧
      (s.fl.links[(0 : Vehicle)].status.map (·.charging)) = some true) ∧
    (let s : State := { veh id with clk := ⟨120000, 120⟩ }
     let r := s.fd.vehicles[(0 : Vehicle)]
     r.state = some .idle ∧ r.parkWait = false ∧ r.delayFrom = 0 ∧ s.fd.parkDelay ≤ s.clk.hall) ∧
    (let s : State := { veh (fun r => { r with state := some .doze }) with clk := ⟨900000, 900⟩ }
     let r := s.fd.vehicles[(0 : Vehicle)]
     r.state = some .doze ∧ r.sleepTested = false ∧ r.delayFrom = 0 ∧ s.fd.sleepDelay ≤ s.clk.hall) := by decide

theorem witness_HallSecond : (∃ r ∈ scene.su.rolls, r.state = .conditioning ∧ r.ready ≤ min 4294967295 (scene.clk.hall + 1)) ∧
    scene.lu.waiting? 0 = none ∧ ((waiting true).lu.waiting? 0).map (·.flag) = some true ∧
    ((waiting false).lu.waiting? 0).map (·.flag) = some false ∧
    (scene.fd.vehicles[(0 : Vehicle)].enrolled = true ∧ scene.fd.vehicles[(0 : Vehicle)].state ≠ some .charging ∧
      scene.fd.vehicles[(0 : Vehicle)].state ≠ some .sleep) ∧ scene.fd.vehicles[(2 : Vehicle)].enrolled = false ∧
    (let s := (veh (fun r => { r with state := some .charging, balance := -3 })).setLink 0 { LinkRec.reset with
        status := some ⟨.docked, none, false, true⟩ }
     s.fd.vehicles[(0 : Vehicle)].state = some .charging ∧
      (s.fl.links[(0 : Vehicle)].status.map (·.charging)) = some true) ∧
    (veh (fun r => { r with balance := 7 })).fd.vehicles[(0 : Vehicle)].balance = 7 := by
  exact ⟨⟨rollAt 104 .conditioning (.lane 2 0) none, by decide, by decide⟩, by decide⟩

/-- The scene with a small floor plan: PARK 0, HOLD 1 and 2, LANE_HEAD 4 of lane 0, bay nodes 5 and 6, PLAIN 7; vehicles 0 and 1
stand at 1 and 2; the fleet runs. -/
def floor : State :=
  { scene with
    lu := { scene.lu with
      nodes := ((((((scene.lu.nodes.set 0 (some ⟨.park, none⟩)).set 1 (some ⟨.hold, none⟩)).set 2 (some ⟨.hold, none⟩)).set 4
        (some ⟨.laneHead 0, none⟩)).set 5 (some ⟨.bay 0, none⟩)).set 6 (some ⟨.bay 7, none⟩)).set 7 (some ⟨.plain, none⟩)
      segs := (scene.lu.segs.set 0 (some ⟨1, 0, 50, .none, .both⟩)).set 1 (some ⟨2, 1, 30, .none, .both⟩)
      routes := scene.lu.routes.set 0 (some ⟨1, 0, [0], some 50⟩)
      nodeLocks := (scene.lu.nodeLocks.set 1 (some 0)).set 2 (some 1) }
    fd := { scene.fd with fleet := .running } }

/-- A lookup finds a route when some route answers it. -/
theorem lookup_isSome (lu : LockUnit) (o d : Node) (detour : Bool) (k : Route) (h : (lu.routeFor o d detour k).isSome = true) :
    (lu.lookup o d detour).isSome = true := by
  unfold LockUnit.lookup
  cases e : (List.finRange 256).filterMap (lu.routeFor o d detour) with
  | nil => simp [List.filterMap_eq_nil_iff.mp e k (List.mem_finRange k)] at h
  | cons x xs => rfl

/-- 32 tasks. -/
def fullQueue : List TaskRec := (List.range 32).map (fun i => { task .unstack with id := i + 1, vehicle := none })

theorem witness_ParkAndSleepDelays :
    (let r := floor.fd.vehicles[(0 : Vehicle)]
     r.state = some .idle ∧ r.enrolled = true ∧ r.task = none ∧ r.reachable = true ∧ r.halted = false ∧ r.chargeDue = false ∧
      floor.fd.fleet = .running ∧ (∀ t ∈ floor.fd.tasks, ¬(t.kind = .move ∧ t.vehicle = some 0 ∧ t.state = .queued))) ∧
    (floor.lu.kind? 0 = some .park ∧ floor.lu.nodeLocks[(0 : Node)] = none ∧
      (∀ t ∈ floor.fd.tasks, ¬(t.kind = .park ∧ t.dest = some (.node 0))) ∧ (floor.lu.lookup 1 0 false).isSome = true ∧
      floor.lu.kind? 1 = some .hold) ∧ floor.fd.tasks.length < 32 ∧ scene.fd.fleet = .stopped ∧
    (floor.modVeh 0 (fun r => { r with node := some 0 })).fd.vehicles[(0 : Vehicle)].node = some 0 ∧
    (∀ m : Node, scene.lu.nodes[m] = none) ∧
    (let r := (veh (fun r => { r with state := some .doze })).fd.vehicles[(0 : Vehicle)]
     r.state = some .doze ∧ r.halted = false ∧ r.load = none ∧ r.balance ≤ 0) ∧
    ¬(veh (fun r => { r with state := some .doze, balance := 1 })).fd.vehicles[(0 : Vehicle)].balance ≤ 0 ∧
    32 ≤ (floor.setTasks fullQueue).fd.tasks.length ∧ ((tasked (task .charge) id).task? 1).isSome :=
  ⟨by decide, ⟨by decide, by decide, by decide, lookup_isSome _ _ _ _ 0 (by decide), by decide⟩, by decide, by decide, by decide,
    by simp [scene, State.reset, State.afterReset, LockUnit.reset], by decide, by decide, by decide, by decide⟩

/-- The floor with a CHARGER in place of its PARK node. -/
def chargers : State := floor.setLocks { floor.lu with nodes := floor.lu.nodes.set 0 (some ⟨.charger, none⟩) }

theorem witness_charger : chargers.lu.kind? 0 = some .charger ∧ chargers.lu.nodeLocks[(0 : Node)] = none ∧
    chargers.fd.tasks = [] ∧ (chargers.lu.lookup 1 0 false).isSome = true :=
  ⟨by decide, by decide, by decide, lookup_isSome _ _ _ _ 0 (by decide)⟩

/-- Vehicle 0 of the floor with charge due, and a queue. -/
def charged (f : VehRec → VehRec) (ts : List TaskRec) : State := (floor.modVeh 0 (fun r => f { r with chargeDue := true })).setTasks ts

theorem witness_ChargeDue :
    (∀ f ∈ [id, fun r : VehRec => { r with state := some .doze }, fun r : VehRec => { r with state := some .sleep }],
      ((charged f []).mayCharge 0 = true ∧ (charged f []).fd.tasks.length < 32) ∧
      ((charged f fullQueue).mayCharge 0 = true ∧ 32 ≤ (charged f fullQueue).fd.tasks.length)) ∧
    floor.mayCharge 0 = false ∧ floor.fd.vehicles[(0 : Vehicle)].state ≠ some .doze ∧
    (∀ t ∈ (charged id fullQueue).fd.tasks, ¬(t.kind = .move ∧ t.vehicle = some 0 ∧ t.state = .queued)) ∧
    ((tasked (task .move) id).vehTask? 0).map (·.vehicle) = some (some 0) ∧
    (∀ h ∈ [false, true], ∀ st ∈ [VehState.idle, .doze, .sleep],
      let s := (veh (fun r => { r with state := some st, halted := h })).setTasks [{ task .move with state := .queued }]
      s.fd.vehicles[(0 : Vehicle)].restful = true ∧ s.waitingMove 0 = s.task? 1 ∧ (s.waitingMove 0).isSome = true) ∧
    (tasked (task .move) id).fd.vehicles[(0 : Vehicle)].restful = false := by decide +kernel

/-- R136: charge due is set as the balance of a vehicle without task reaches 6, and as a vehicle with such a balance becomes IDLE
without task, before any hand-off is taken. -/
theorem test_charge_due_at_once :
    ((veh (fun r => { r with balance := 5 })).chargeExpiry 0).fd.vehicles[(0 : Vehicle)].chargeDue = true ∧
    ((tasked (task .move) (fun r => { r with state := some .driving, balance := 6 })).finishTask 0 .done).fd.vehicles[
      (0 : Vehicle)].chargeDue = true := by decide

/-- R137: the free vehicle with charge due has a CHARGE task, and charge due is clear. -/
theorem test_charge_task :
    let u := (charged id []).vehFree 0
    u.fd.tasks.map (fun t => (t.kind, t.vehicle)) = [(.charge, some 0)] ∧ u.fd.vehicles[(0 : Vehicle)].chargeDue = false := by
  decide +kernel

/-- Vehicle 0 of the floor, its PARK task waiting for a slot, at a node. -/
def parkWaits (n : Node) (f : VehRec → VehRec) : State := floor.modVeh 0 (fun r => f { r with parkWait := true, node := some n })

theorem witness_ParkWaits :
    (let r := (parkWaits 1 id).fd.vehicles[(0 : Vehicle)]
     r.parkWait = true ∧ r.state = some .idle ∧ (parkWaits 1 id).mayPark 0 = true) ∧
    (parkWaits 1 (fun r => { r with reachable := false })).mayPark 0 = false ∧
    floor.fd.vehicles[(0 : Vehicle)].parkWait = false := by decide +kernel

/-- R138: a vehicle put at a PARK node while its PARK task waits for a slot is given no task; it dozes. -/
theorem test_no_park_task_at_a_park_node :
    let u := (parkWaits 0 id).slotFreed
    u.fd.tasks = [] ∧ u.fd.vehicles[(0 : Vehicle)].state = some .doze := by decide +kernel

/-! ### Deliveries -/

/-- Stand 1 of the scene with a delivery record. -/
def delivery (f : Delivery → Delivery) (ts : List TaskRec) : State :=
  (scene.modDelivery 1 (fun d => f { d with
    facts := { d.facts with present := true, auto := true, assignment := some (1, .full), state := .single } })).setTasks ts

theorem witness_Deliveries :
    (let f := (delivery id []).fp.stands[(1 : Stand)].facts
     f.present = true ∧ f.auto = true ∧ f.assignment ≠ none ∧ (delivery id []).fp.stands[(1 : Stand)].hold = false ∧
      (delivery id []).fp.stands[(1 : Stand)].task = none ∧ f.state = .single) ∧
    (delivery id []).fd.tasks.length < 32 ∧ 32 ≤ (delivery id fullQueue).fd.tasks.length ∧
    scene.fp.stands[(1 : Stand)].facts.present = false ∧
    (let s := delivery (fun d => { d with task := some 1 }) [{ task .deliver with state := .waitRoll }]
     (s.fp.stands[(1 : Stand)].task.bind s.task?).map (·.state) = some .waitRoll ∧
      s.fp.stands[(1 : Stand)].facts.assignment = some (1, .full) ∧
      ((s.candidates (1, .full)).find? s.eligible).map (fun r => (r.num, r.loc)) = some (105, .bay 0) ∧
      (s.candidates (2, .full)).find? s.eligible = none) ∧
    (let s := scene.modDelivery 1 (fun d => { d with facts := { d.facts with present := true }, slack := some (-1) })
     s.fp.presses[(0 : Press)].slow = false ∧ (1 : Stand).val / 6 = (0 : Press).val ∧
      s.fp.stands[(1 : Stand)].facts.present = true ∧ s.fp.stands[(1 : Stand)].slack = some (-1)) ∧
    (scene.setOrders 0 ⟨true, false, false⟩).fp.presses[(0 : Press)].slow = true ∧ pressOf 1 = 0 ∧
    StandState.armed ≠ .runout := by decide

theorem witness_Deliveries_tables :
    (delivery (fun d => { d with task := some 1 }) [{ task .deliver with state := .waitRoll }]).su.TablesOk :=
  tables_of_check _ (by decide)

/-- Stand 1's delivery without a roll, the rolls 101 and 105 marked HELD, 102 READY behind 101. -/
def buried (head : RollState) : State :=
  (((delivery (fun d => { d with task := some 1, state := some .waitRoll }) [{ task .deliver with
      state := .waitRoll, vehicle := none, stand := some 1 }]).modRoll 105 (fun r => { r with mark := .held })).modRoll 101 (fun r =>
    { r with mark := .held, state := head, reservation := if head = .reserved then some 1 else none })).modRoll 102 (fun r =>
    { r with state := .ready, reservation := none })

theorem witness_Dig : (((buried .ready).candidates (1, .full)).find? (buried .ready).eligible).map (·.loc) = some (.lane 0 1) ∧
    (buried .ready).PlacesOk ∧ (buried .ready).fd.QueueOk :=
  ⟨by decide, placesOk_of_check _ (by decide), by unfold FleetDispatcher.QueueOk; decide⟩

theorem witness_Starved : ((buried .reserved).candidates (1, .full)).find? (buried .reserved).eligible = none ∧
    (∀ r ∈ (buried .reserved).su.rolls, r.num = 102 → r.state = .ready ∧ r.mark = .normal ∧ r.loc = .lane 0 1) ∧
    (let s := (buried .reserved).setStore ((buried .reserved).su.modLane 2 (fun l => { l with blocked := false, suspect := false }))
     (s.candidates (1, .full)).find? s.eligible = none ∧
      (s.roll? 104).map (fun r => (r.state, r.mark, r.loc)) = some (.conditioning, .normal, .lane 2 0)) ∧
    ((buried .ready).candidates (2, .full)).find? (buried .ready).eligible = none := by decide

/-- Stand 1's delivery with a roll and the RELOCATE tasks 2 and 3 of its dig. -/
def digging (roll : Nat) (dig : List Nat) : State :=
  (delivery (fun d => { d with task := some 1, roll := some roll, dig := dig, time := some 40 }) [{ task .deliver with
      state := .waitDig, vehicle := none, stand := some 1 }, { task .relocate with id := 3, state := .waitDig, vehicle := none }])

theorem witness_DigEnds :
    (let s := digging 102 [2, 3]
     s.fp.stands[(1 : Stand)].task = some 1 ∧ (s.task? 1).isSome ∧ (s.fp.stands[(1 : Stand)].dig.filter (fun k => k != 2)) = [3] ∧
      (s.task? 3).map (·.vehicle) = some none ∧ (∀ k ∈ s.fp.stands[(1 : Stand)].dig, k ≠ 1) ∧
      (s.roll? 102).map (fun r => (r.state, r.reservation)) = some (.reserved, some 1)) ∧
    (digging 101 [2]).fp.stands[(1 : Stand)].dig.filter (fun k => k != 2) = [] ∧
    ((digging 101 [2]).roll? 101).map (·.loc) = some (.lane 0 0) ∧ ((digging 102 [2]).roll? 102).map (·.loc) = some (.lane 0 1) ∧
    (digging 101 []).fp.stands[(1 : Stand)].facts.present = true ∧ (digging 101 []).fp.stands[(1 : Stand)].time = some 40 ∧
    (digging 101 []).pins[pressOf 1].run = true ∧ (digging 101 []).fp.stands[(1 : Stand)].facts.state = .single := by decide

/-- Stand 1's delivery with roll `n` reserved for it, a RELOCATE task 3 without and a RELOCATE task 4 with a vehicle. -/
def ending (n : Nat) : State :=
  let s := ((delivery (fun d => { d with task := some 1, roll := some n, dig := [3, 4] }) [{ task .deliver with
      state := .waitDig, vehicle := none, stand := some 1 }, { task .relocate with
      id := 3, state := .waitDig, vehicle := none, bay := some 7 }, { task .relocate with id := 4, bay := some 6 }]).modVeh 0
      (fun r => { r with task := some 4 })).modRoll n (fun r => { r with reservation := some 1 })
  s.setStore { s.su with bays := (s.su.bays.set 7 ⟨.reserved 3, false, none⟩).set 6 ⟨.reserved 4, false, none⟩ }

theorem witness_DeliveryEnds :
    (let s := ending 102
     s.fp.stands[(1 : Stand)].task = some 1 ∧ s.fp.stands[(1 : Stand)].roll = some 102 ∧ 1 ∉ s.fp.stands[(1 : Stand)].dig ∧
      (∀ k : Stand, k < 1 → s.fp.stands[k].task ≠ some 1 ∧ 3 ∉ s.fp.stands[k].dig) ∧
      (∀ k : Stand, s.fp.stands[k].task ≠ some 9 ∧ 9 ∉ s.fp.stands[k].dig) ∧
      (s.roll? 102).map (fun r => (r.state, r.reservation)) = some (.reserved, some 1) ∧
      (s.task? 1).map (fun t => (t.vehicle, t.cancel)) = some (none, false) ∧
      (s.task? 3).map (fun t => (t.vehicle, t.bay)) = some (none, some 7) ∧
      s.su.bays[(7 : Fin 8)].state = .reserved 3 ∧ (s.task? 4).map (·.vehicle) = some (some 0) ∧
      s.fd.vehicles[(0 : Vehicle)].task = some 4 ∧ s.su.bays[(6 : Fin 8)].state = .reserved 4) ∧
    ((ending 106).roll? 106).map (fun r => (r.state, r.reservation)) = some (.carried, some 1) := by decide

/-- A hand-off of stand 1 under a hold, two deliveries in WAIT_ROLL, the later created due first, and a stand starved by
QUEUE_FULL. -/
theorem witness_DeliveriesAreRetried :
    (let d := (delivery (fun d => { d with hold := true }) []).fp.stands[(1 : Stand)]
     d.hold = true ∧ d.facts.assignment = some (1, .full) ∧ ({ d.facts with assignment := none } : StandFacts).assignment = none) ∧
    (let s := delivery id [{ task .deliver with state := .waitRoll, deadline := some 70 },
       { task .deliver with id := 2, state := .waitRoll, deadline := some 60 }]
     (sortBy byDeadline (s.fd.tasks.filter (fun t => t.kind == .deliver && t.state == .waitRoll))).map (·.id) = [2, 1]) ∧
    (let s := delivery (fun d => { d with starved := some .queueFull }) []
     s.retryAll.fp.stands[(1 : Stand)].starved = some .queueFull ∧ s.retryAll.fp.stands[(0 : Stand)].starved = none) := by decide

/-- The delivery of `ending`, its RELOCATE tasks made as R91 makes them, each with its bay as destination. -/
def digBays : State :=
  let s := ending 102
  (s.modTask 3 (fun t => { t with bay := none, dest := some (.bay 7) })).modTask 4 (fun t =>
    { t with bay := none, dest := some (.bay 6) })

theorem witness_DigBays : (digBays.task? 3).map (fun t => (t.vehicle, t.dest)) = some (none, some (.bay 7)) ∧
    digBays.su.bays[(7 : Fin 8)].state = .reserved 3 ∧ digBays.fp.stands[(1 : Stand)].dig = [3, 4] ∧
    (digBays.task? 4).map (·.vehicle) = some (some 0) ∧ digBays.su.bays[(6 : Fin 8)].state = .reserved 4 := by decide

/-! ### Floor plan -/

/-- A run from node 1 to node 0 that vehicle 0 waits for. -/
def run : WaitEntry := ⟨0, ⟨[⟨0, 0, 50, .none⟩], 1, 0, 0, false⟩, none, .pick, [], none, 0, false, none⟩

theorem witness_Grants : (floor.tryGrant run).2 = .granted ∧
    ((floor.setLocks { floor.lu with segLocks := floor.lu.segLocks.set 0 (some 1) }).tryGrant run).2 = .held (.segment 0) ∧
    (∀ d : Fin 2, (0 : Vehicle) ∉ floor.su.doors[d].passages) ∧ ((busyDoor 1700).askDoor 0 3).2 = true ∧
    ((busyDoor 1450).askDoor 0 3).2 = false := by decide

/-- Vehicle 0, which holds lane 1 OPEN, asks for a run into it through door 0, whose window is full. -/
def reopening : State × WaitEntry :=
  ({ scene with su := { scene.su with doors := scene.su.doors.set 0 ⟨1, 600, [50], none, [], [], false⟩ } },
    ⟨0, ⟨[⟨0, 0, 50, .door 0⟩], 1, 0, 0, false⟩, some 1, .place, [0], none, 0, false, none⟩)

theorem witness_Grants_open : (reopening.1.tryGrant reopening.2).2 = .held (.door 0) ∧
    reopening.1.su.lanes[1]?.map (·.motion) = some (.opened 0) ∧ ∀ d : Fin 2, (0 : Vehicle) ∉ reopening.1.su.doors[d].passages := by
  decide

/-- Vehicles 0 and 1 wait at the nodes 1 and 2 for runs to each other's node; vehicle 1 has the escape node 3 with a route. -/
def facing : State :=
  { floor with lu := { floor.lu with
      nodes := (floor.lu.nodes.set 2 (some ⟨.hold, some 3⟩)).set 3 (some ⟨.hold, none⟩)
      segs := floor.lu.segs.set 2 (some ⟨2, 3, 30, .none, .both⟩)
      routes := floor.lu.routes.set 1 (some ⟨2, 3, [2], some 30⟩)
      waits := [⟨0, ⟨[⟨1, 2, 30, .none⟩], 1, 2, 0, false⟩, none, .pick, [], none, 0, false, none⟩,
        ⟨1, ⟨[⟨1, 1, 30, .none⟩], 2, 1, 0, false⟩, none, .pick, [], none, 0, false, none⟩] } }

theorem witness_HeadToHead : (facing.lu.waiting? 0).isSome ∧ (facing.lu.waiting? 1).isSome ∧
    facing.lu.nodeLocks[(2 : Node)] = some 1 ∧ facing.lu.nodeLocks[(1 : Node)] = some 0 ∧
    facing.lu.nodes[(2 : Node)] = some ⟨.hold, some 3⟩ ∧ facing.lu.nodeLocks[(3 : Node)] = none ∧
    (facing.lu.lookup 2 3 true).isSome = true ∧ facing.lu.walk 2 [2] ≠ [] :=
  ⟨by decide, by decide, by decide, by decide, by decide, by decide, lookup_isSome _ _ _ _ 1 (by decide), by decide⟩

/-- Vehicle 0 waits for its run, which is granted. -/
def granted : State :=
  (tasked (task .move) (fun r => { r with state := some .waiting, phase := .runWait })).setLocks { scene.lu with
    runs := scene.lu.runs.set 0 (some ⟨run.run, 0, 1⟩) }

/-- Vehicle 0 of the floor with a task whose route 0 leads from node 1 to node 0. -/
def asking (f : VehRec → VehRec) : State :=
  (floor.modVeh 0 (fun r => f { r with task := some 1 })).setTasks [{ task .move with
    dest := some (.node 0), route := some ⟨0, [0], 50⟩ }]

theorem witness_RunAnswers :
    (granted.lu.runs[(0 : Vehicle)] = some ⟨run.run, 0, 1⟩ ∧ granted.fd.vehicles[(0 : Vehicle)].phase = .runWait ∧
      granted.fd.vehicles[(0 : Vehicle)].halted = false ∧ (granted.vehTask? 0).map (·.vehicle) = some (some 0)) ∧
    scene.lu.runs[(0 : Vehicle)] = none ∧ scene.fd.vehicles[(0 : Vehicle)].phase ≠ .runWait ∧
    (∀ f ∈ [id, fun r : VehRec => { r with halted := true }],
      ((asking f).vehTask? 0).bind (·.route) = some ⟨0, [0], 50⟩) ∧
    ((asking id).runRequest 0 0 none none).2 = .taken ∧ scene.fd.fleet ≠ .running ∧
    ((asking id).fd.fleet = .running ∧ (asking id).lu.routes[(0 : Route)] = some ⟨1, 0, [0], some 50⟩ ∧
      (asking id).lu.runs[(0 : Vehicle)] = none ∧ (asking id).lu.nodeLocks[(1 : Node)] = some 0 ∧
      (asking id).lu.nodeLocks[(0 : Node)] = none) ∧
    (((asking id).setLocks { floor.lu with nodeLocks := (floor.lu.nodeLocks.set 1 none) }).runRequest 0 0 none none).2 =
      .noPosition ∧
    (((asking id).setLocks { floor.lu with nodeLocks := (floor.lu.nodeLocks.set 1 none).set 0 (some 0) }).runRequest 0 0 none
      none).2 = .noRun := by decide +kernel

/-- Vehicle 0 of the floor with a MOVE, on a run over the segments 0 and 1 of which it reports the first one's far node. -/
def onRun : State :=
  (asking (fun r => { r with state := some .driving, phase := .driving })).setLocks { floor.lu with
    runs := floor.lu.runs.set 0 (some ⟨⟨[⟨0, 0, 50, .none⟩, ⟨1, 3, 30, .none⟩], 1, 3, 7, true⟩, 0, 1⟩) }

theorem witness_Progress : (onRun.lu.runs[(0 : Vehicle)]).isSome ∧ 0 + 1 < 2 ∧ onRun.fd.vehicles[(0 : Vehicle)].phase ≠ .homing ∧
    onRun.fd.vehicles[(0 : Vehicle)].state ≠ some .lost ∧
    (onRun.vehTask? 0).map (·.route) = some (some ⟨0, [0], 50⟩) := by decide

/-- R97, R114: the node report leaves what remains of the run and the route after it as the length ahead. -/
theorem test_length_ahead : ((onRun.event 0 (.passed (some 0))).task? 1).map (·.route) = some (some ⟨0, [0], 37⟩) := by
  decide +kernel

theorem witness_FloorPlan : 127 < 128 ∧ 191 < 192 ∧ 255 < 256 ∧ (127 : Node).val = 127 ∧ (191 : Seg).val = 191 ∧
    (255 : Route).val = 255 ∧ [(191 : Seg), 0].map (fun g => g.val) = [191, 0] ∧ floor.fd.fleet ≠ .stopped ∧
    scene.fd.fleet = .stopped ∧ (∀ g : Seg, scene.lu.segLocks[g] = none) ∧
    (∀ n : Node, scene.lu.nodeLocks[n] = none) ∧ 65535 ≤ 65535 := by
  refine ⟨by decide, by decide, by decide, by decide, by decide, by decide, by decide, by decide, by decide, ?_, ?_, by decide⟩ <;>
    simp [scene, State.reset, State.afterReset, LockUnit.reset]

theorem witness_FleetStarts : floor.fd.fleet = .running ∧ scene.fd.fleet = .stopped ∧
    { floor.fd with fleet := .halting }.fleet = .halting ∧
    (scene.setLocks { scene.lu with nodes := scene.lu.nodes.set 0 (some ⟨.laneHead 3, none⟩) }).planFault ≠ none := by
  decide +kernel

/-- A HALTING fleet that nothing keeps, and one that a lane OPEN by vehicle 0 keeps. -/
def halting (m : LaneMotion) : State :=
  (scene.setStore (scene.su.modLane 1 (fun l => { l with motion := m }))).setFleet .halting

theorem witness_FleetHalting : (halting .idle).fd.fleet = .halting ∧ (halting .idle).fleetIdle = true ∧
    (halting (.opened 0)).fleetIdle = false ∧ scene.fd.fleet ≠ .halting := by decide

theorem witness_planFault : scene.planFault = none := by
  have quiet : ∀ {α β : Type} (xs : List α), xs.findSome? (fun _ => (none : Option β)) = none := fun xs =>
    List.findSome?_eq_none_iff.mpr (fun _ _ => rfl)
  simp [quiet, State.planFault, State.checkNode, LockUnit.checkSeg, LockUnit.checkRoute, scene, State.reset, State.afterReset,
    LockUnit.reset]

/-! ### Tasks and vehicles -/

theorem witness_QueueOk : scene.fd.QueueOk ∧ (scene.setTasks fullQueue).fd.QueueOk ∧ (tasked (task .move) id).fd.QueueOk := by
  unfold FleetDispatcher.QueueOk
  decide +kernel

theorem witness_TaskRequests : scene.su.lanes.length ≤ 3 ∧ 2 < scene.su.lanes.length ∧
    (scene.setTasks fullQueue).fd.tasks.length = 32 ∧ 11 < 12 ∧ 127 < 128 ∧ scene.fd.vehicles[(2 : Vehicle)].enrolled = false ∧
    (floor.fd.vehicles[(0 : Vehicle)].enrolled = true ∧ floor.lu.nodes[(6 : Node)] ≠ none ∧ floor.lu.kind? 6 = some (.bay 7) ∧
      floor.lu.placeNode (.bay 7) = some 6 ∧ floor.fd.vehicles[(0 : Vehicle)].task = none ∧ floor.fd.tasks = []) ∧
    floor.lu.kind? 7 = some .plain ∧ floor.su.bays[(7 : Fin 8)].state = .free ∧ floor.su.bays[(7 : Fin 8)].suspect = false ∧
    floor.su.bays[(0 : Fin 8)].state ≠ .free ∧ (tasked (task .move) id).fd.vehicles[(0 : Vehicle)].task ≠ none := by decide

theorem witness_Arbiter :
    (let r := floor.fd.vehicles[(0 : Vehicle)]
     r.enrolled = true ∧ r.reachable = true ∧ r.halted = false ∧ r.task = none ∧ r.load = none ∧ r.chargeDue = false ∧
      r.barred = false ∧ r.balance < 8 ∧ r.state = some .idle ∧ r.node = some 1) ∧
    scene.fd.fleet ≠ .running ∧ (floor.pickVehicle 1).map (·.veh) = some 0 ∧
    (let s := floor.setTasks [{ task .check with source := some (.node 1), vehicle := none }]
     (s.task? 1).map (·.source) = some (some (.node 1)) ∧ s.lu.placeNode (.node 1) = some 1) := by decide +kernel

/-- Vehicle 0 in a state, matched to a task. -/
def matched (st : VehState) (t : TaskRec) : State := tasked t (fun r => { r with state := some st })

theorem witness_MatchBegins :
    (∀ st ∈ [VehState.idle, .doze, .sleep, .charging], ∀ k ∈ [TaskKind.check, .unstack],
      ((matched st (task k)).vehTask? 0).map (fun t => (t.kind, t.vehicle)) = some (k, some 0) ∧
        (matched st (task k)).fd.vehicles[(0 : Vehicle)].halted = false) ∧
    (scene.su.laneList 1).head? = some 103 ∧ scene.su.rollState? 103 = some .reserved ∧
    (scene.su.laneList 0).head? = some 101 ∧ scene.su.rollState? 101 = some .ready ∧ scene.relocating 101 = false ∧
    (∀ b : Fin 8, b < 1 → scene.su.bays[b].state ≠ .free) ∧
    (scene.su.bays[(1 : Fin 8)].state = .free ∧ scene.su.bays[(1 : Fin 8)].suspect = false) ∧
    (let s := scene.setStore { scene.su with bays := Vector.replicate 8 ⟨.occupied 105, false, none⟩ }
     ∀ b : Fin 8, s.su.bays[b].state ≠ .free) ∧
    ((matched .idle (task .charge)).vehTask? 0).map (fun t => (t.kind, t.dest)) = some (.charge, none) ∧
    ((matched .idle { task .check with source := some (.lane 1) }).vehTask? 0).map (·.source) = some (some (.lane 1)) := by decide

/-- R135, R156: an UNSTACK whose first round ends at the match leaves its dozing vehicle WAKING under WAKE, without task. -/
theorem test_match_wakes :
    let u := (matched .doze { task .unstack with source := some (.lane 1), count := 1 }).beginMatch 1
    u.fd.tasks = [] ∧ u.fd.vehicles[(0 : Vehicle)].state = some .waking ∧ u.fl.links[(0 : Vehicle)].order = some .wake := by
  decide

theorem witness_TaskCancel : scene.task? 1 = none ∧ (tasked { task .unstack with cancel := true } id).task? 1 ≠ none ∧
    ((scene.setTasks [{ task .unstack with vehicle := none, state := .queued }]).task? 1).map (·.vehicle) = some none ∧
    ((tasked (task .unstack) id).task? 1).map (fun t => (t.cancel, t.vehicle)) = some (false, some 0) ∧
    (tasked (task .unstack) id).fd.vehicles[(0 : Vehicle)].task = some 1 ∧
    (tasked (task .unstack) (fun r => { r with halted := true })).fd.vehicles[(0 : Vehicle)].halted = true ∧
    (tasked (task .unstack) (fun r => { r with state := some .picking, phase := .reading, work := some (.lane 1) })).fd.vehicles[
      (0 : Vehicle)].phase = .reading := by decide

/-- Vehicle 0 with a MOVE whose drop bay 7 is RESERVED for it. -/
def withBay : State :=
  let s := tasked { task .move with dest := some (.bay 7) } id
  s.setStore { s.su with bays := s.su.bays.set 7 ⟨.reserved 1, false, none⟩ }

theorem witness_HasBay : ∃ t, withBay.vehTask? 0 = some t ∧ t.vehicle = some 0 ∧ t.HasBay withBay 7 :=
  ⟨_, rfl, rfl, .inr rfl, by decide⟩

theorem witness_VehicleEnrolRemove : 11 < 12 ∧ (0 : Vehicle).val = 0 ∧ scene.fd.vehicles[(2 : Vehicle)].enrolled = false ∧
    (scene.fd.vehicles[(0 : Vehicle)].enrolled = true ∧ scene.fd.vehicles[(0 : Vehicle)].state = some .idle ∧
      scene.fd.vehicles[(0 : Vehicle)].load = none) ∧
    (scene.fd.vehicles[(1 : Vehicle)].enrolled = true ∧ scene.fd.vehicles[(1 : Vehicle)].load = some 106) := by decide

theorem witness_HaltRecoverHome : 11 < 12 ∧ 127 < 128 ∧ (127 : Node).val = 127 ∧
    (let r := (veh (fun r => { r with state := some .lost, reachable := false })).fd.vehicles[(0 : Vehicle)]
     r.enrolled = true ∧ r.state = some .lost) ∧
    (veh (fun r => { r with state := some .doze })).fd.vehicles[(0 : Vehicle)].state = some .doze ∧
    scene.lu.nodes[(0 : Node)] = none ∧ floor.lu.nodes[(0 : Node)] ≠ none ∧ floor.lu.nodeLocks[(0 : Node)] = none ∧
    floor.lu.kind? 7 = some .plain ∧ floor.lu.nodeLocks[(2 : Node)] = some 1 ∧
    (scene.fd.fleet = .stopped ∧ scene.fd.vehicles[(0 : Vehicle)].reachable = true ∧ scene.fd.vehicles[(0 : Vehicle)].halted = false ∧
      scene.fd.vehicles[(0 : Vehicle)].task = none ∧ scene.fd.vehicles[(0 : Vehicle)].state = some .idle) ∧
    ((tasked (task .move) id).vehTask? 0).map (·.vehicle) = some (some 0) := by decide

/-! ### The Fleet Link and events -/

/-- A visit of vehicle 0 in progress, its window open. -/
def visited (s : State) (removed : Bool) : State := { s with fl := { s.fl with visit := some ⟨0, 50000, 50020, false, removed⟩ } }

theorem witness_Visits :
    (scene.fd.vehicles[(0 : Vehicle)].enrolled = true ∧ scene.fd.vehicles[(0 : Vehicle)].power = .awake ∧ scene.fl.visit = none) ∧
    scene.fd.vehicles[(2 : Vehicle)].enrolled = false ∧ (visited scene false).fl.visit = some ⟨0, 50000, 50020, false, false⟩ ∧
    (visited scene true).fl.visit = some ⟨0, 50000, 50020, false, true⟩ ∧ scene.fl.links[(0 : Vehicle)].fresh = false ∧
    (veh (fun r => { r with power := .sleep })).fd.vehicles[(0 : Vehicle)].power = .sleep ∧
    scene.fl.links[(0 : Vehicle)].misses + 1 < 3 ∧
    (3 ≤ (scene.setLink 0 { LinkRec.reset with misses := 2 }).fl.links[(0 : Vehicle)].misses + 1 ∧
      scene.fd.vehicles[(0 : Vehicle)].reachable = true ∧ ¬(scene.fl.links[(0 : Vehicle)].order = some .wake)) ∧
    (scene.setLink 0 { LinkRec.reset with wakeExpiry := some 60000 }).fl.links[(0 : Vehicle)].wakeExpiry ≠ none ∧
    scene.fl.links[(0 : Vehicle)].wakeExpiry = none := by decide

/-- R155: LINK_LOSS is no moment of a vehicle in SLEEP, nor of one with a WAKE not echoed; it is one of another. -/
theorem witness_LinkLoss :
    (scene.fd.vehicles[(0 : Vehicle)].power ≠ .sleep ∧
      ¬(scene.fl.links[(0 : Vehicle)].order = some .wake ∧ scene.fl.links[(0 : Vehicle)].echoed = false)) ∧
    (veh (fun r => { r with power := .sleep })).missCounts 0 = false ∧
    (scene.setLink 0 { LinkRec.reset with order := some .wake, echoed := false }).missCounts 0 = false := by decide

/-- A status frame of a vehicle with an echoed order count and an event number, no event. -/
def quiet (v count number : Byte) : List Byte :=
  0xC5 :: ([v, count, 0, 0xFF, 0, 0, 0, number, 0, 0, 0, 0] ++ [crc8 [v, count, 0, 0xFF, 0, 0, 0, number, 0, 0, 0, 0]])

theorem witness_StatusFrames : scene.fl.visit = none ∧ statusFields? [0xC5] = none ∧
    (visited scene false).fl.visit = some ⟨0, 50000, 50020, false, false⟩ ∧ 50000 ≤ (visited scene false).clk.tick ∧
    (statusFields? (quiet 0 1 15)).map (fun f => (f.veh.val, f.count, f.number, f.event)) = some (0, 1, 15, none) ∧
    (statusFields? (quiet 1 0 0)).map (fun f => f.veh.val) = some 1 ∧
    (let k := (scene.setLink 0 { LinkRec.reset with order := some .lift, echoed := false, count := 1 }).fl.links[(0 : Vehicle)]
     k.order ≠ none ∧ k.echoed = false ∧ k.count = 1 ∧ k.awaitMotion = false) ∧
    scene.fl.links[(0 : Vehicle)].order = none ∧
    (let r := (veh (fun r => { r with state := some .waking, homeNext := true })).fd.vehicles[(0 : Vehicle)]
     r.state = some .waking ∧ r.homeNext = true ∧ r.halted = false) ∧
    (tasked (task .move) (fun r => { r with state := some .waking })).fd.vehicles[(0 : Vehicle)].task ≠ none ∧
    (let s := tasked (task .charge) (fun r => { r with state := some .waiting, phase := .dockWait })
     s.fd.vehicles[(0 : Vehicle)].phase = .dockWait ∧ (s.vehTask? 0).map (·.vehicle) = some (some 0)) ∧
    (let r := (veh (fun r => { r with state := some .charging, undocking := true })).fd.vehicles[(0 : Vehicle)]
     r.state = some .charging ∧ r.undocking = true ∧ r.task = none) := by decide +kernel

/-- R158: the frame of vehicle 3 that echoes count 9, MOVING, at node 127, load sensor and charge flag set, TAG of roll 103 under
event number 1 (sent as 17, log 16). The CRC is worked out outside the model. -/
theorem test_status_frame :
    statusFields? [0xC5, 3, 9, 1, 0x7F, 1, 1, 3, 17, 0x67, 0, 0, 0, 0x83] =
      some ⟨3, 9, ⟨.moving, some 127, true, true⟩, some (.tag (.roll 103)), 1⟩ := by decide +kernel

/-- Vehicle 0 at work in lane 1, whose only roll is 103. -/
def atWork (k : TaskKind) (p : Phase) : State :=
  tasked (task k) (fun r => { r with phase := p, work := some (.lane 1), expected := some 103 })

/-- Vehicle 1, loaded, lowering into lane 1 opened to it. -/
def lowering : State :=
  (scene.modVeh 1 (fun r => { r with phase := .lowering, work := some (.lane 1) })).setStore
    (scene.su.modLane 1 (fun l => { l with motion := .opened 1 }))

theorem witness_VehicleEvents :
    (let s := atWork .unstack .reading
     let r := s.fd.vehicles[(0 : Vehicle)]
     r.phase = .reading ∧ (s.vehTask? 0).map (fun t => (t.kind, t.reads)) = some (.unstack, 0) ∧ r.halted = false ∧
      r.expected = some 103 ∧ Tag.noRead ≠ .roll 103 ∧ r.work = some (.lane 1) ∧
      s.su.lanes[1]?.map (·.suspect) = some false) ∧
    ((atWork .check .reading).vehTask? 0).map (·.kind) = some .check ∧
    (let s := atWork .unstack .lifting
     let r := s.fd.vehicles[(0 : Vehicle)]
     r.phase = .lifting ∧ r.work = some (.lane 1) ∧ r.expected = some 103 ∧
      s.su.lanes[1]?.map (fun l => (l.motion, l.list.head?)) = some (.opened 0, some 103) ∧
      (s.roll? 103).map (·.state) = some .reserved ∧ r.load = none) ∧
    (let r := lowering.fd.vehicles[(1 : Vehicle)]
     r.phase = .lowering ∧ r.work = some (.lane 1) ∧ r.load = some 106 ∧
      lowering.su.lanes[1]?.map (fun l => (l.motion, decide (l.list.length < l.depth))) = some (.opened 1, true) ∧
      (lowering.roll? 106).map (·.state) = some .carried) ∧
    scene.fd.vehicles[(0 : Vehicle)].state ≠ some .lost ∧ scene.fd.vehicles[(0 : Vehicle)].phase ≠ .homing ∧
    (veh (fun r => { r with phase := .homing })).fd.vehicles[(0 : Vehicle)].phase = .homing := by decide

/-- Vehicle 0 lifting from bay 0. -/
def bayLift : State :=
  tasked (task .unstack) (fun r => { r with phase := .lifting, work := some (.bay 0), expected := some 105 })
/-- Vehicle 1, loaded, lowering at a place. -/
def loweringAt (p : Place) : State := scene.modVeh 1 (fun r => { r with phase := .lowering, work := some p })
/-- Vehicle 1 lowering at stand 3, which waits for it. -/
def standPlace : State := (loweringAt (.stand 3)).modStand 3 (fun r => { r with present := true, state := .loading, loading := some 1 })

theorem witness_VehicleEvents_more :
    (bayLift.fd.vehicles[(0 : Vehicle)].load = none ∧ bayLift.su.bays[(0 : Fin 8)].state = .occupied 105) ∧
    scene.su.bays[(1 : Fin 8)].state ≠ .occupied 105 ∧ (loweringAt (.bay 7)).su.bays[(7 : Fin 8)].state = .free ∧
    (standPlace.ssq[(3 : Stand)].loading = some 1 ∧ (standPlace.roll? 106).map (·.reservation) = some (some 3)) ∧
    (loweringAt (.stand 3)).ssq[(3 : Stand)].loading ≠ some 1 ∧
    (let s := ((atWork .check (.leaving .done)).modVeh 0 (fun r => { r with backDue := true })).setLocks { scene.lu with
      nodes := scene.lu.nodes.set 4 (some ⟨.laneHead 1, none⟩), nodeLocks := scene.lu.nodeLocks.set 4 (some 0) }
     s.lu.runs[(0 : Vehicle)] = none ∧ s.lu.nodeLocks[(4 : Node)] = some 0 ∧ s.su.lanes[1]?.map (·.motion) = some (.opened 0) ∧
      s.lu.nodes[(4 : Node)] = some ⟨.laneHead 1, none⟩ ∧ s.fd.vehicles[(0 : Vehicle)].backDue = true ∧
      s.fd.vehicles[(0 : Vehicle)].state ≠ some .lost) ∧
    (let s := tasked { task .check with source := some (.lane 1), cancel := true, reads := 3 } (fun r => { r with phase := .reading })
     (s.vehTask? 0).map (fun t => (t.source, t.cancel, t.reads)) = some (some (.lane 1), true, 3) ∧
      s.fd.vehicles[(0 : Vehicle)].phase = .reading ∧ (s.su.laneList 1).head? = some 103) ∧
    (let s := tasked (task .relocate) (fun r => { r with phase := .reading, work := some (.bay 0), expected := some 105 })
     (s.vehTask? 0).map (·.vehicle) = some (some 0) ∧ s.fd.vehicles[(0 : Vehicle)].work = some (.bay 0) ∧
      s.su.bays[(0 : Fin 8)] = ⟨.occupied 105, false, none⟩) ∧
    (let s := tasked { task .unstack with source := some (.lane 0), count := 2, moved := 1 } id
     (s.vehTask? 0).map (fun t => (t.count, t.cancel)) = some (2, false) ∧ (s.su.laneList 0).head? = some 101 ∧
      s.su.rollState? 101 = some .ready ∧ s.su.bays[(1 : Fin 8)].state = .free ∧ s.su.bays[(1 : Fin 8)].suspect = false) ∧
    scene.lu.runs[(0 : Vehicle)] = none ∧ scene.lu.nodeLocks[(5 : Node)] ≠ some 0 := by decide

/-- Vehicle 0, halted while it reads in lane 1. -/
def haltedRead : State := (atWork .unstack .reading).modVeh 0 (fun r => { r with halted := true, state := some .picking })

/-- Vehicle 1 lowering at a place for a task, its roll put down before. -/
def emptied (p : Place) : State :=
  (((loweringAt p).modVeh 1 (fun r => { r with state := some .placing, load := none, task := some 1 }))).setTasks [{ task .relocate with
    vehicle := some 1, state := .placing }]

theorem witness_VehicleEvents_halted :
    (let r := haltedRead.fd.vehicles[(0 : Vehicle)]
     r.phase = .reading ∧ r.halted = true ∧ r.expected = some 103 ∧
      (haltedRead.vehTask? 0).map (fun t => (t.kind, t.reads)) = some (.unstack, 0)) ∧
    (∀ p ∈ [Place.lane 1, .bay 7, .stand 3],
      (emptied p).fd.vehicles[(1 : Vehicle)].phase = .lowering ∧ (emptied p).fd.vehicles[(1 : Vehicle)].load = none ∧
        (emptied p).fd.vehicles[(1 : Vehicle)].work = some p ∧ ((emptied p).vehTask? 1).map (·.vehicle) = some (some 1)) ∧
    (∀ st ∈ [VehState.fault, .lost], (veh (fun r => { r with state := some st })).runDone 0 false =
      veh (fun r => { r with state := some st })) := by decide +kernel

/-- R131: a LIFTED that comes while the halted vehicle waits after a matching TAG still has it back at its lane head at the AT
report, and the lane is CLEARING. -/
theorem test_lifted_while_stalled :
    let s := (haltedRead.setLocks { scene.lu with
      nodes := scene.lu.nodes.set 4 (some ⟨.laneHead 1, none⟩), nodeLocks := scene.lu.nodeLocks.set 4 (some 0) })
    let u := ((s.event 0 (.tag (.roll 103))).event 0 .lifted).event 0 (.at (some 4))
    u.fd.vehicles[(0 : Vehicle)].phase = .stalled ∧ u.su.lanes[1]?.map (·.motion) = some (.clearing 54000) := by decide +kernel

/-- R133: a RELOCATE whose roll has been put down before its PLACE fails STORE_REFUSED; it is not DONE. -/
theorem test_emptied_relocate :
    ((emptied (.bay 7)).event 1 .placed).fd.vehicles[(1 : Vehicle)].outcome.map (·.result) = some (.failed .storeRefused) := by
  decide +kernel

/-- A LIFTED reported at no step that expects it, at bay 0 and at lane 1 opened to the vehicle, and a PLACED so at bay 7. -/
def lateLift (p : Place) (n : Nat) : State := veh (fun r => { r with work := some p, expected := some n })
def latePlace (p : Place) : State := (loweringAt p).modVeh 1 (fun r => { r with phase := .none })

theorem witness_VehicleEvents_late :
    (let s := lateLift (.bay 0) 105
     let r := s.fd.vehicles[(0 : Vehicle)]
     r.phase ≠ .lifting ∧ r.expected = some 105 ∧ r.load = none ∧ r.work = some (.bay 0) ∧
      s.su.bays[(0 : Fin 8)].state = .occupied 105 ∧ (s.roll? 105).map (·.state) = some .ready) ∧
    (lateLift (.bay 1) 105).su.bays[(1 : Fin 8)].state ≠ .occupied 105 ∧
    (let s := lateLift (.lane 1) 103
     s.su.lanes[1]?.map (fun l => (l.motion, l.list.head?)) = some (.opened 0, some 103) ∧
      (s.roll? 103).map (·.state) = some .reserved) ∧
    (let s := latePlace (.bay 7)
     s.fd.vehicles[(1 : Vehicle)].phase ≠ .lowering ∧ s.fd.vehicles[(1 : Vehicle)].load = some 106 ∧
      s.su.bays[(7 : Fin 8)].state = .free ∧ (s.roll? 106).map (·.state) = some .carried) := by decide

theorem witness_VehicleEvents_late_places :
    (lateLift (.bay 0) 105).PlacesOk ∧ (lateLift (.lane 1) 103).PlacesOk ∧ (latePlace (.bay 7)).PlacesOk :=
  ⟨placesOk_of_check _ (by decide), placesOk_of_check _ (by decide), placesOk_of_check _ (by decide)⟩

/-- R17, R132: a LIFTED that comes after VEHICLE RECOVER at a bay is still taken. -/
theorem test_lift_after_recover :
    let s := (lateLift (.bay 0) 105).setLocks { scene.lu with nodes := scene.lu.nodes.set 3 (some ⟨.hold, none⟩) }
    let x := reqVehicleRecover 0 3 s
    x.2.result = .ok ∧ (x.1.event 0 .lifted).fd.vehicles[(0 : Vehicle)].load = some 105 := by decide

/-- R147: a vehicle WAKING for VEHICLE HOME at RESET(MOTION) is IDLE at its answer. -/
theorem test_waking_for_home_at_reset :
    let s := veh (fun r => { r with state := some .waking, homeNext := true })
    (((s.resetVehicle 0).wakeAnswer 0).fd.vehicles[(0 : Vehicle)]).state = some .idle := by decide

theorem witness_VehicleEvents_rest : bayLift.PlacesOk ∧ (loweringAt (.bay 7)).PlacesOk ∧ standPlace.PlacesOk :=
  ⟨placesOk_of_check _ (by decide), placesOk_of_check _ (by decide), placesOk_of_check _ (by decide)⟩

theorem witness_VehicleEvents_places : (atWork .unstack .lifting).PlacesOk ∧ lowering.PlacesOk :=
  ⟨placesOk_of_check _ (by decide), placesOk_of_check _ (by decide)⟩

/-- Vehicle 0 at node 1 with a task, its vehicle record changed. -/
def begins (t : TaskRec) (f : VehRec → VehRec) : State := tasked t (fun r => f { r with state := some .driving })

theorem witness_RunDone :
    (begins (task .move) id).fd.vehicles[(0 : Vehicle)].state ≠ some .fault ∧
    (veh (fun r => { r with state := some .fault })).fd.vehicles[(0 : Vehicle)].state = some .fault ∧
    scene.vehTask? 0 = none ∧
    ((begins { task .move with cancel := true } id).vehTask? 0).map (·.cancel) = some true ∧
    ((begins (task .move) id).vehTask? 0).map (fun t => (t.cancel, t.dest)) = some (false, none) ∧
    ((begins { task .move with dest := some (.node 1) } id).lu.placeNode (.node 1) = some 1 ∧
      (begins { task .move with dest := some (.node 1) } id).fd.vehicles[(0 : Vehicle)].node = some 1) ∧
    scene.lu.placeNode (.node 2) ≠ scene.fd.vehicles[(0 : Vehicle)].node := by decide

/-- The floor, vehicle 0 at the head of lane 0 with a task and the lane in a motion. -/
def atHead (t : TaskRec) (f : LaneRec → LaneRec) : State :=
  ((floor.setStore (floor.su.modLane 0 f)).modVeh 0 (fun r => { r with node := some 4, task := some t.id })).setTasks [t]

theorem witness_DriveTo :
    (let s := atHead { task .unstack with source := some (.lane 0) } id
     s.lu.placeNode (.lane 0) = some 4 ∧ s.fd.vehicles[(0 : Vehicle)].node = some 4 ∧ s.fd.vehicles[(0 : Vehicle)].halted = false ∧
      s.su.lanes[0]?.map (fun l => (l.blocked, l.suspect, l.motion)) = some (false, false, .idle)) ∧
    (atHead (task .unstack) (fun l => { l with blocked := true })).su.lanes[0]?.map (·.blocked) = some true ∧
    (atHead (task .check) (fun l => { l with suspect := true })).su.lanes[0]?.map (·.suspect) = some true ∧
    (atHead (task .unstack) (fun l => { l with motion := .opened 5 })).su.lanes[0]?.map (·.motion) = some (.opened 5) ∧
    (floor.lu.placeNode (.node 0) = some 0 ∧ (floor.lu.lookup 1 0 false).isSome = true) ∧ floor.lu.segs[(7 : Seg)] = none :=
  ⟨by decide, by decide, by decide, by decide, ⟨by decide, lookup_isSome _ _ _ _ 0 (by decide)⟩, by decide⟩

/-- A delivery of vehicle 0 under way to stand 3, which is present in a state. -/
def toStand (st : StandState) (loading : Option Vehicle) (arm : Option Nat) : State :=
  (begins { task .deliver with state := .carrying, stand := some 3, roll := some 106, dest := some (.stand 3) } (fun r =>
    { r with load := some 106, phase := .standWait })).modStand 3 (fun r =>
    { r with present := true, state := st, loading := loading, running := some .a, armB := arm })

theorem witness_WorkBegins :
    (let s := begins { task .relocate with roll := some 103 } id
     (s.su.laneList 1).head? = some 103 ∧ (s.su.laneList 0).head? ≠ some 103 ∧
      s.su.bays[(0 : Fin 8)].state = .occupied 105 ∧ s.su.bays[(0 : Fin 8)].suspect = false ∧
      (∀ n, s.su.bays[(1 : Fin 8)].state ≠ .occupied n) ∧ (s.vehTask? 0).map (·.vehicle) = some (some 0)) ∧
    ((lane2 id).su.laneList 9).head? = none ∧
    (begins { task .move with state := .carrying } (fun r => { r with load := some 106 })).fd.vehicles[(0 : Vehicle)].load ≠ none ∧
    (begins (task .charge) (fun r => { r with halted := true })).fd.vehicles[(0 : Vehicle)].halted = true ∧
    (∀ k ∈ [TaskKind.charge, .park, .check, .unstack],
      ((begins (task k) id).vehTask? 0).map (fun t => (t.kind, t.state)) = some (k, .assigned)) := by
  refine ⟨⟨by decide, by decide, by decide, by decide, ?_, by decide⟩, by decide, by decide, by decide, by decide⟩
  intro n h
  cases h

theorem witness_PlaceBegin :
    (let x := (toStand .loading (some 0) none).ssq[(3 : Stand)]
     x.present = true ∧ x.state = .loading ∧ x.standbyRoll? = none ∧ x.loading = some 0) ∧
    (∀ st ∈ [StandState.empty, .single, .runout], (toStand st none none).ssq[(3 : Stand)].state = st ∧
      (toStand st none none).ssq[(3 : Stand)].standbyRoll? = none ∧ (toStand st none none).ssq[(3 : Stand)].loading = none) ∧
    (let s := (toStand .butt none (some 109)).modRoll 109 (fun r => { r with state := .butt })
     s.ssq[(3 : Stand)].standbyRoll? = some 109 ∧ s.su.rollState? 109 = some .butt ∧ s.ssq[(3 : Stand)].state = .butt ∧
      s.fd.vehicles[(0 : Vehicle)].phase = .standWait ∧ (s.vehTask? 0).map (·.stand) = some (some 3) ∧
      (∀ k : Vehicle, k ≠ 0 → s.fd.vehicles[k].phase ≠ .standWait)) ∧
    (toStand .armed none (some 108)).ssq[(3 : Stand)].standbyRoll? = some 108 ∧
    scene.ssq[(3 : Stand)].present = false := by decide

/-- R129: a PLACED taken at a bay of an IDLE vehicle makes it available, so the arbiter is to run. -/
theorem test_late_placed_runs_the_arbiter :
    (Msg.fdFree 1) ∈ ((latePlace (.bay 7)).event 1 .placed).inbox := by decide

/-! ### The invariants -/

/-- The scene at rest: a clear queue of commands but one. -/
def ready : State := { scene with pending := [.rollHold 102] }

theorem ready_steps : ∃ t, step ready = .next t := ⟨_, rfl⟩

theorem witness_Ranges : ready.RangesOk := by
  refine ⟨⟨?_, ?_, ?_, ?_⟩, ?_, ?_, by decide, ⟨?_, ?_⟩, ?_, ?_, ⟨?_, ?_⟩, ⟨?_, ?_⟩⟩
  · unfold StoreUnit.ConfigOk; decide
  · unfold StandCfg.Ok Reserves.Ok; decide
  · unfold FeedPlanner.ConfigOk; decide
  · unfold FleetDispatcher.ConfigOk; decide
  · unfold State.ChargeOk; decide
  · simp [RollRec.Ok, ready, scene, rollAt]
  · intro p
    refine ⟨by revert p; decide, ?_, by revert p; decide, by revert p; decide, by revert p; decide, by revert p; decide⟩
    simp [ready, scene, State.reset, State.afterReset, ProjectionUnit.reset, PressProj.reset]
  · simp [StandProj.Ok, Reserves.Ok, ready, scene, State.reset, State.afterReset, ProjectionUnit.reset, StandProj.reset,
      Reserves.reset]
  · simp [CountRec.Ok, Scope.Ok, ready, scene, State.reset, State.afterReset, CountRec.reset, Scope.zero]
  · exact ⟨by decide, by decide, trivial⟩
  · decide
  · simp [LinkRec.Ok, ready, scene, State.reset, State.afterReset, FleetLink.reset, LinkRec.reset]
  · unfold within; decide
  · unfold within; decide

theorem witness_Tables : ready.fd.QueueOk ∧ ready.su.TablesOk :=
  ⟨by unfold FleetDispatcher.QueueOk; decide, tables_of_check _ (by decide)⟩

theorem witness_PlacesAndStands : ready.PlacesOk ∧ ready.StandsOk := by
  refine ⟨placesOk_of_check _ (by decide), fun st => ?_⟩
  by_cases h : st = 0
  · subst h
    refine ⟨by decide, ?_, by decide, by decide, ?_, ?_, ?_, ⟨by decide, by decide⟩⟩
    · intro arm e
      have : arm = .a := by revert e; cases arm <;> decide
      subst this
      exact ⟨107, by decide, by decide⟩
    all_goals simp [ready, scene, StandRec.reset]
  · have e : ready.ssq[st] = StandRec.reset := by
      have : st.val ≠ 0 := fun c => h (Fin.ext c)
      simp [ready, scene, State.reset, State.afterReset, Vector.getElem_set_ne _ _ (Ne.symm this)]
    simp [State.StandOk, e, StandRec.reset, StandRec.standbyRoll?, StandRec.armRoll, StandRec.standbyArm]

/-- Two granted runs, of vehicles 0 and 1, over segments 0 and 1. -/
def twoRuns : State :=
  { scene with lu := { scene.lu with
      segLocks := (scene.lu.segLocks.set 0 (some 0)).set 1 (some 1)
      nodeLocks := (scene.lu.nodeLocks.set 0 (some 0)).set 2 (some 1)
      runs := (scene.lu.runs.set 0 (some ⟨⟨[⟨0, 0, 50, .none⟩], 1, 0, 0, false⟩, 0, 1⟩)).set 1
        (some ⟨⟨[⟨1, 2, 30, .none⟩], 3, 2, 0, false⟩, 0, 3⟩) } }

theorem twoRuns_step : ∃ t, step { twoRuns with pending := [.rollHold 102] } = .next t := ⟨_, rfl⟩

theorem witness_RunsApart : twoRuns.LocksOk ∧ (0 : Vehicle) ≠ 1 ∧ (twoRuns.lu.runs[(0 : Vehicle)]).isSome ∧
    (twoRuns.lu.runs[(1 : Vehicle)]).isSome := by
  refine ⟨⟨?_, by unfold Run.Ok; decide, by decide, by decide⟩, by decide⟩
  intro v g e
  have : v = 0 ∨ v = 1 ∨ (v ≠ 0 ∧ v ≠ 1) := by
    by_cases h0 : v = 0
    · exact .inl h0
    · by_cases h1 : v = 1
      · exact .inr (.inl h1)
      · exact .inr (.inr ⟨h0, h1⟩)
  rcases this with rfl | rfl | ⟨h0, h1⟩
  · simp [twoRuns, scene, State.reset, State.afterReset, LockUnit.reset] at e
    subst e
    unfold Run.Ok
    decide
  · simp [twoRuns, scene, State.reset, State.afterReset, LockUnit.reset] at e
    subst e
    unfold Run.Ok
    decide
  · have n0 : v.val ≠ 0 := fun c => h0 (Fin.ext c)
    have n1 : v.val ≠ 1 := fun c => h1 (Fin.ext c)
    simp [twoRuns, scene, State.reset, State.afterReset, LockUnit.reset, Vector.getElem_set_ne _ _ (Ne.symm n0),
      Vector.getElem_set_ne _ _ (Ne.symm n1)] at e

end Sys2Proof.Tests
end

section
/-! PROOF. ROLL CLOSE (R14): the roll table after a record is removed, the three answers of the request, and the statement
about it. -/

namespace Sys2Proof.Machine

/-! ## The roll table after a record is removed -/

@[simp] theorem StoreUnit.roll?_removeRoll_same (su : StoreUnit) (n : Nat) : (su.removeRoll n).roll? n = none := by
  simp [StoreUnit.roll?, StoreUnit.removeRoll, List.find?_eq_none]

theorem StoreUnit.roll?_removeRoll_ne (su : StoreUnit) {n m : Nat} (h : m ≠ n) :
    (su.removeRoll n).roll? m = su.roll? m := by
  have passes : ∀ r : RollRec, (r.num != n && r.num == m) = (r.num == m) := by
    intro r
    by_cases e : r.num = m
    · simp [e, h]
    · simp [e]
  simp only [StoreUnit.roll?, StoreUnit.removeRoll, List.find?_filter, Bool.decide_and,
    Bool.decide_eq_true, passes]

theorem StoreUnit.length_removeRoll_lt {su : StoreUnit} {n : Nat} {r : RollRec} (h : su.roll? n = some r) :
    (su.removeRoll n).rolls.length < su.rolls.length := by
  have named : r.num = n := by simpa using List.find?_some h
  exact List.length_filter_lt_length_iff_exists.2 ⟨r, List.mem_of_find?_eq_some h, by simp [named]⟩

/-! ## The answers of ROLL CLOSE and ROLL QUERY -/

theorem exec_rollClose_of_none {n : Nat} {s : State} (h : s.roll? n = none) :
    exec (.rollClose n) s = .next (s.reply ⟨.notFound, []⟩) := by
  simp [exec, execRollClose, taken, reqRollClose, Reply.code, h]

theorem exec_rollClose_of_not_spent {n : Nat} {s : State} {r : RollRec} (h : s.roll? n = some r) (hs : r.state ≠ .spent) :
    exec (.rollClose n) s = .next (s.reply ⟨.badState, []⟩) := by
  simp [exec, execRollClose, taken, reqRollClose, Reply.code, h, hs]

theorem exec_rollClose_of_spent {n : Nat} {s : State} {r : RollRec} (h : s.roll? n = some r) (hs : r.state = .spent) :
    exec (.rollClose n) s = .next ((s.setStore (s.su.removeRoll n)).reply ⟨.ok, r.field⟩) := by
  simp [exec, execRollClose, taken, reqRollClose, h, hs]

theorem exec_rollQuery_of_some {n : Nat} {s : State} {r : RollRec} (h : s.roll? n = some r) :
    exec (.rollQuery n) s = .next (s.reply ⟨.ok, r.field⟩) := by
  simp [exec, execRollQuery, taken, reqRollQuery, h]

/-- Settles O18, by the three answers of the request and the roll table after `StoreUnit.removeRoll`. -/
theorem rollCloseRemovesASpentRecord : Obligations.RollCloseRemovesASpentRecord := by
  unfold Obligations.RollCloseRemovesASpentRecord
  intro n s
  refine ⟨exec_rollClose_of_none, fun r found => ⟨exec_rollClose_of_not_spent found, fun spent => ?_⟩⟩
  refine ⟨_, _, exec_rollClose_of_spent found spent, exec_rollQuery_of_some found, rfl, ?_, ?_, ?_⟩
  · exact s.su.roll?_removeRoll_same n
  · intro m hm
    exact s.su.roll?_removeRoll_ne hm
  · exact StoreUnit.length_removeRoll_lt found

end Sys2Proof.Machine
end

section
/-! PROOF. PLATE (R173): the two answers of the request, the mark after a run opens (R167), and the statement about them. -/

namespace Sys2Proof.Machine

/-! ## The answers of PLATE -/

theorem exec_plate_of_bad_press {n : Nat} (h : 3 < n) (a : Option PlateAction) (s : State) :
    exec (.plate n a) s = .next (s.reply ⟨.badFrame, []⟩) := by
  have noPress : fin? 4 n = none := fin?_eq_none.2 h
  simp [exec, execPlate, taken, reqPlate, Reply.code, noPress]

theorem exec_plate_of_no_action (n : Nat) (s : State) :
    exec (.plate n none) s = .next (s.reply ⟨.badFrame, []⟩) := by
  simp [exec, execPlate, taken, reqPlate, Reply.code]

theorem exec_plate_of_action (p : Press) (x : PlateAction) (s : State) :
    exec (.plate p.val (some x)) s =
      .next ((s.modCount p (fun r => { r with plateMark := x == .set })).reply ⟨.ok, flag (x == .set)⟩) := by
  simp [exec, execPlate, taken, reqPlate]

theorem flag_beq_set (x : PlateAction) : flag (x == .set) = bytesLE 1 (if x = .set then 1 else 0) := by
  cases x <;> rfl

/-! ## The mark after a run opens -/

/-- The mark is consumed exactly by a run of reason PLATE (R167). -/
theorem CountRec.startRun_plateMark (r : CountRec) (g : Nat) :
    (r.startRun g).plateMark = (r.plateMark && (r.openReason g).1 != .plate) := by
  by_cases h : (r.openReason g).1 = .plate
  · simp [CountRec.startRun, h]
  · simp [CountRec.startRun, h]

/-- Settles O41, by the answers of the request and the mark after `CountRec.startRun`. -/
theorem plateSetsTheMark : Obligations.PlateSetsTheMark := by
  unfold Obligations.PlateSetsTheMark
  refine ⟨fun s n a => ⟨?refused, ?done⟩, CountRec.startRun_plateMark⟩
  case refused =>
    rintro (badPress | rfl)
    · exact exec_plate_of_bad_press badPress a s
    · exact exec_plate_of_no_action n s
  case done =>
    rintro p x rfl rfl
    rw [exec_plate_of_action, flag_beq_set]
    rfl

end Sys2Proof.Machine
end

section
/-! PROOF. ATTENTION (R178): each entry after `NoticeUnit.markSeen`, the bytes of the reply, and the statement about them. -/

namespace Sys2Proof.Machine

/-! ## The Notice Table after `markSeen` -/

theorem NoticeUnit.markSeen_entry (nu : NoticeUnit) (i : Fin 44) :
    nu.markSeen.entries[i] =
      if nu.entries[i].pending = 0 then nu.entries[i] else { nu.entries[i] with seen := nu.entries[i].pending } := by
  simp only [NoticeUnit.markSeen, Fin.getElem_fin, Vector.getElem_map]

theorem NoticeUnit.markSeen_pending (nu : NoticeUnit) (i : Fin 44) :
    nu.markSeen.entries[i].pending = nu.entries[i].pending := by
  rw [markSeen_entry, apply_ite NoticeEntry.pending, ite_self]

theorem NoticeUnit.markSeen_seen (nu : NoticeUnit) (i : Fin 44) :
    nu.markSeen.entries[i].seen = if nu.entries[i].pending = 0 then nu.entries[i].seen else nu.entries[i].pending := by
  rw [markSeen_entry, apply_ite NoticeEntry.seen]

theorem NoticeUnit.markSeen_announced (nu : NoticeUnit) (i : Fin 44) :
    nu.markSeen.entries[i].announced = nu.entries[i].announced := by
  rw [markSeen_entry, apply_ite NoticeEntry.announced, ite_self]

theorem NoticeUnit.markSeen_queued (nu : NoticeUnit) (i : Fin 44) :
    nu.markSeen.entries[i].queued = nu.entries[i].queued := by
  rw [markSeen_entry, apply_ite NoticeEntry.queued, ite_self]

/-! ## The reply of ATTENTION -/

theorem u8_eq_byteOf (n : Nat) : u8 n = [byteOf n] := rfl

theorem flag_eq_byteOf_toNat (b : Bool) : flag b = [byteOf b.toNat] := by
  cases b <;> rfl

/-- An item of the ATTENTION reply (R178, R187): the source, its pending set and the mask of its kind. -/
def NoticeUnit.itemField (nu : NoticeUnit) (i : Fin 44) : List Byte :=
  byteOf i.val :: (bytesLE 2 nu.entries[i].pending.toNat ++ bytesLE 2 nu.masks[kindOf i].toNat)

/-- The whole reply of ATTENTION: OK, the enable, the number of items and the items. -/
def NoticeUnit.attentionReply (nu : NoticeUnit) : Reply :=
  ⟨.ok, byteOf nu.enable.toNat :: byteOf nu.items.length :: (nu.items.map nu.itemField).flatten⟩

theorem reqAttention_reply (s : State) : (reqAttention s).2 = s.nu.attentionReply := by
  simp only [reqAttention, flag_eq_byteOf_toNat, listField, u8_eq_byteOf]
  rfl

theorem exec_attention (s : State) :
    exec .attention s = .next (({ s with nu := s.nu.markSeen } : State).reply s.nu.attentionReply) := by
  rw [← reqAttention_reply]
  rfl

/-- Settles O13, by the entries after `NoticeUnit.markSeen` and the reply formed from the table before it. -/
theorem attentionListsAndMarksSeen : Obligations.AttentionListsAndMarksSeen := by
  unfold Obligations.AttentionListsAndMarksSeen
  intro s
  refine ⟨_, exec_attention s, rfl, fun i => ?entry, s.nu.items, rfl, rfl⟩
  case entry =>
    exact ⟨s.nu.markSeen_pending i, s.nu.markSeen_seen i, s.nu.markSeen_announced i, s.nu.markSeen_queued i⟩

end Sys2Proof.Machine
end

section
/-! PROOF. IDENTIFY (R190): the frames that spell it, its answer, and the statement about them. -/

namespace Sys2Proof.Machine

/-! ## A request kind without payload (R189) -/

theorem requestOf_of_no_fields {kind : Byte} {i : Instr} (h : payload? kind.toNat = some (pure i)) (tag : Byte)
    (bs : List Byte) : requestOf ⟨kind, tag, bs⟩ = if bs = [] then .inr i else .inl .badFrame := by
  cases bs with
  | nil =>
    simp only [requestOf, h]
    rfl
  | cons b bs =>
    simp only [requestOf, h]
    rfl

theorem payload?_identify : payload? (0x01 : Byte).toNat = some (pure .identify) := rfl

/-! ## The answer of IDENTIFY -/

/-- IDENTIFY is no fetch: the state the reply is added to is the one before it. -/
theorem exec_identify (s : State) : exec .identify s = .next (s.reply (reqIdentify s).2) := rfl

/-- Settles O8, by the payload reader of a kind without fields and the bytes of the reply. -/
theorem identifyTellsThePart : Obligations.IdentifyTellsThePart := by
  unfold Obligations.IdentifyTellsThePart
  refine ⟨fun tag => ?spelled, fun tag b bs => ?refused, fun s => ?answered⟩
  case spelled => rw [requestOf_of_no_fields payload?_identify, if_pos rfl]
  case refused => rw [requestOf_of_no_fields payload?_identify, if_neg (List.cons_ne_nil b bs)]
  case answered =>
    simp only [exec_identify, State.reply, reqIdentify, u8, u16, u32, List.map_cons, List.map_nil, List.flatten_cons,
      List.flatten_nil, List.append_assoc, List.append_nil]

end Sys2Proof.Machine
end
